-- ==== Sys2Proof/Word.lean ====
section
/-! DEFINITION. Word.lean: the two widths of data the CPU moves (R6): bytes on the bus and in the 8-bit registers,
16-bit words in the register pairs, SP, pc and addresses. -/

namespace Sys2Proof

/-- An 8-bit value: a general register, a bus datum (R6). -/
abbrev Byte := BitVec 8

/-- A 16-bit value: a register pair, SP, pc, a bus address (R6). -/
abbrev Word := BitVec 16

end Sys2Proof
end

