-- ==== Sys2Proof/Config.lean ====
section
/-! DEFINITION. Config.lean: what is fixed for one machine (R7), and the model's free values. -/

namespace Sys2Proof

/-- FREE VALUE (assumption 3). The `n`-th value the spec leaves open (a "draw", R12): it has no body, so nothing can be
proved of it. `State.draws` counts how many have been used. -/
opaque Config.freeByte : Nat → Byte

/-- R7 `LaunchState`: the register state a run starts from (R400, R403). -/
inductive LaunchState where
  | powerOn
  | postBoot
  deriving DecidableEq, Repr

/-- R7 `Bus`: what every access reaches. `flat` is the FlatBus of R84; `gameBoy` is the address map of R71 and R72. -/
inductive BusKind where
  | flat
  | gameBoy
  deriving DecidableEq, Repr

/-- R7: the parameters of the machine. No instruction changes them. -/
structure Config where
  /-- R7 `Gbc`: false is DMG, true is CGB. -/
  gbc : Bool
  /-- R7 `DiDelayCgb` (default false): on CGB, DI takes effect one instruction late (R355). -/
  diDelayCgb : Bool
  /-- R7 `LaunchState`. -/
  launch : LaunchState
  /-- R7 `OamBugEnabled` (default true): whether the OAM-corruption trigger of R155 is reported. -/
  oamBugEnabled : Bool
  /-- R7 `Bus`. -/
  bus : BusKind
  /-- R72 row 0xA000–0xBFFF: cartridge RAM is enabled; otherwise that range is void. -/
  cartRam : Bool
  deriving DecidableEq, Repr

/-- The configuration of `State.reset` (assumption 2): DMG, R7's defaults, the Game Boy's address map, no cartridge RAM. -/
def Config.default : Config :=
  { gbc := false, diDelayCgb := false, launch := .powerOn, oamBugEnabled := true, bus := .gameBoy, cartRam := false }

end Sys2Proof
end

