-- ==== Sys2Proof/Syntax.lean ====
section
/-! DEFINITION. Syntax.lean: the operand names of R104, R105, R108 and R109, and the instruction type, one constructor
per row of spec/opcode_table.json (R111, R112, R122) in the table's order (PREFIX_CB stands after the primary rows). The eleven UNDEFINED rows (R113) share the
constructor `UNDEFINED`, which carries the opcode byte. A constructor is named by its row's mnemonic, with `HL+`, `HL-`
and `SP+` written `HLI`, `HLD` (R118's aliases) and `SP_`. -/

namespace Sys2Proof

/-- R104: the seven 8-bit general registers, as an operand field names them (code 6 is `(HL)`, see `Operand8`). -/
inductive Reg8 where
  | B | C | D | E | H | L | A
  deriving DecidableEq, Repr

/-- R104: the 3-bit operand field: a register, or the memory byte at address HL. -/
inductive Operand8 where
  | reg (r : Reg8)
  | atHL
  deriving DecidableEq, Repr

/-- R105, table `rp`. -/
inductive Reg16 where
  | BC | DE | HL | SP
  deriving DecidableEq, Repr

/-- R105, table `rp2`: the pairs PUSH and POP name. -/
inductive StackPair where
  | BC | DE | HL | AF
  deriving DecidableEq, Repr

/-- R105: the condition field. -/
inductive Cond where
  | NZ | Z | NC | C
  deriving DecidableEq, Repr

/-- R108: the eight operations on A. -/
inductive AluOp where
  | add | adc | sub | sbc | and | xor | or | cp
  deriving DecidableEq, Repr

/-- R109: the eight operations of the CB table's first quarter. -/
inductive RotOp where
  | rlc | rrc | rl | rr | sla | sra | swap | srl
  deriving DecidableEq, Repr

/-- One constructor per opcode-table row. Operands: `n` is d8, `nn` is d16 or a16, `a` is a8, `e` is r8 as its byte
(R106); `pad` is the byte STOP fetches and ignores (R116); `op` is the byte of an undefined opcode (R113). -/
inductive Instr where
  | NOP                     -- 00  NOP
  | LD_BC_d16 (nn : Word)   -- 01  LD BC,d16
  | LD__BC__A               -- 02  LD (BC),A
  | INC_BC                  -- 03  INC BC
  | INC_B                   -- 04  INC B
  | DEC_B                   -- 05  DEC B
  | LD_B_d8 (n : Byte)      -- 06  LD B,d8
  | RLCA                    -- 07  RLCA
  | LD__a16__SP (nn : Word) -- 08  LD (a16),SP
  | ADD_HL_BC               -- 09  ADD HL,BC
  | LD_A__BC                -- 0A  LD A,(BC)
  | DEC_BC                  -- 0B  DEC BC
  | INC_C                   -- 0C  INC C
  | DEC_C                   -- 0D  DEC C
  | LD_C_d8 (n : Byte)      -- 0E  LD C,d8
  | RRCA                    -- 0F  RRCA
  | STOP (pad : Byte)       -- 10  STOP
  | LD_DE_d16 (nn : Word)   -- 11  LD DE,d16
  | LD__DE__A               -- 12  LD (DE),A
  | INC_DE                  -- 13  INC DE
  | INC_D                   -- 14  INC D
  | DEC_D                   -- 15  DEC D
  | LD_D_d8 (n : Byte)      -- 16  LD D,d8
  | RLA                     -- 17  RLA
  | JR_r8 (e : Byte)        -- 18  JR r8
  | ADD_HL_DE               -- 19  ADD HL,DE
  | LD_A__DE                -- 1A  LD A,(DE)
  | DEC_DE                  -- 1B  DEC DE
  | INC_E                   -- 1C  INC E
  | DEC_E                   -- 1D  DEC E
  | LD_E_d8 (n : Byte)      -- 1E  LD E,d8
  | RRA                     -- 1F  RRA
  | JR_NZ_r8 (e : Byte)     -- 20  JR NZ,r8
  | LD_HL_d16 (nn : Word)   -- 21  LD HL,d16
  | LD__HLI__A              -- 22  LD (HL+),A
  | INC_HL                  -- 23  INC HL
  | INC_H                   -- 24  INC H
  | DEC_H                   -- 25  DEC H
  | LD_H_d8 (n : Byte)      -- 26  LD H,d8
  | DAA                     -- 27  DAA
  | JR_Z_r8 (e : Byte)      -- 28  JR Z,r8
  | ADD_HL_HL               -- 29  ADD HL,HL
  | LD_A__HLI               -- 2A  LD A,(HL+)
  | DEC_HL                  -- 2B  DEC HL
  | INC_L                   -- 2C  INC L
  | DEC_L                   -- 2D  DEC L
  | LD_L_d8 (n : Byte)      -- 2E  LD L,d8
  | CPL                     -- 2F  CPL
  | JR_NC_r8 (e : Byte)     -- 30  JR NC,r8
  | LD_SP_d16 (nn : Word)   -- 31  LD SP,d16
  | LD__HLD__A              -- 32  LD (HL-),A
  | INC_SP                  -- 33  INC SP
  | INC__HL                 -- 34  INC (HL)
  | DEC__HL                 -- 35  DEC (HL)
  | LD__HL__d8 (n : Byte)   -- 36  LD (HL),d8
  | SCF                     -- 37  SCF
  | JR_C_r8 (e : Byte)      -- 38  JR C,r8
  | ADD_HL_SP               -- 39  ADD HL,SP
  | LD_A__HLD               -- 3A  LD A,(HL-)
  | DEC_SP                  -- 3B  DEC SP
  | INC_A                   -- 3C  INC A
  | DEC_A                   -- 3D  DEC A
  | LD_A_d8 (n : Byte)      -- 3E  LD A,d8
  | CCF                     -- 3F  CCF
  | LD_B_B                  -- 40  LD B,B
  | LD_B_C                  -- 41  LD B,C
  | LD_B_D                  -- 42  LD B,D
  | LD_B_E                  -- 43  LD B,E
  | LD_B_H                  -- 44  LD B,H
  | LD_B_L                  -- 45  LD B,L
  | LD_B__HL                -- 46  LD B,(HL)
  | LD_B_A                  -- 47  LD B,A
  | LD_C_B                  -- 48  LD C,B
  | LD_C_C                  -- 49  LD C,C
  | LD_C_D                  -- 4A  LD C,D
  | LD_C_E                  -- 4B  LD C,E
  | LD_C_H                  -- 4C  LD C,H
  | LD_C_L                  -- 4D  LD C,L
  | LD_C__HL                -- 4E  LD C,(HL)
  | LD_C_A                  -- 4F  LD C,A
  | LD_D_B                  -- 50  LD D,B
  | LD_D_C                  -- 51  LD D,C
  | LD_D_D                  -- 52  LD D,D
  | LD_D_E                  -- 53  LD D,E
  | LD_D_H                  -- 54  LD D,H
  | LD_D_L                  -- 55  LD D,L
  | LD_D__HL                -- 56  LD D,(HL)
  | LD_D_A                  -- 57  LD D,A
  | LD_E_B                  -- 58  LD E,B
  | LD_E_C                  -- 59  LD E,C
  | LD_E_D                  -- 5A  LD E,D
  | LD_E_E                  -- 5B  LD E,E
  | LD_E_H                  -- 5C  LD E,H
  | LD_E_L                  -- 5D  LD E,L
  | LD_E__HL                -- 5E  LD E,(HL)
  | LD_E_A                  -- 5F  LD E,A
  | LD_H_B                  -- 60  LD H,B
  | LD_H_C                  -- 61  LD H,C
  | LD_H_D                  -- 62  LD H,D
  | LD_H_E                  -- 63  LD H,E
  | LD_H_H                  -- 64  LD H,H
  | LD_H_L                  -- 65  LD H,L
  | LD_H__HL                -- 66  LD H,(HL)
  | LD_H_A                  -- 67  LD H,A
  | LD_L_B                  -- 68  LD L,B
  | LD_L_C                  -- 69  LD L,C
  | LD_L_D                  -- 6A  LD L,D
  | LD_L_E                  -- 6B  LD L,E
  | LD_L_H                  -- 6C  LD L,H
  | LD_L_L                  -- 6D  LD L,L
  | LD_L__HL                -- 6E  LD L,(HL)
  | LD_L_A                  -- 6F  LD L,A
  | LD__HL__B               -- 70  LD (HL),B
  | LD__HL__C               -- 71  LD (HL),C
  | LD__HL__D               -- 72  LD (HL),D
  | LD__HL__E               -- 73  LD (HL),E
  | LD__HL__H               -- 74  LD (HL),H
  | LD__HL__L               -- 75  LD (HL),L
  | HALT                    -- 76  HALT
  | LD__HL__A               -- 77  LD (HL),A
  | LD_A_B                  -- 78  LD A,B
  | LD_A_C                  -- 79  LD A,C
  | LD_A_D                  -- 7A  LD A,D
  | LD_A_E                  -- 7B  LD A,E
  | LD_A_H                  -- 7C  LD A,H
  | LD_A_L                  -- 7D  LD A,L
  | LD_A__HL                -- 7E  LD A,(HL)
  | LD_A_A                  -- 7F  LD A,A
  | ADD_A_B                 -- 80  ADD A,B
  | ADD_A_C                 -- 81  ADD A,C
  | ADD_A_D                 -- 82  ADD A,D
  | ADD_A_E                 -- 83  ADD A,E
  | ADD_A_H                 -- 84  ADD A,H
  | ADD_A_L                 -- 85  ADD A,L
  | ADD_A__HL               -- 86  ADD A,(HL)
  | ADD_A_A                 -- 87  ADD A,A
  | ADC_A_B                 -- 88  ADC A,B
  | ADC_A_C                 -- 89  ADC A,C
  | ADC_A_D                 -- 8A  ADC A,D
  | ADC_A_E                 -- 8B  ADC A,E
  | ADC_A_H                 -- 8C  ADC A,H
  | ADC_A_L                 -- 8D  ADC A,L
  | ADC_A__HL               -- 8E  ADC A,(HL)
  | ADC_A_A                 -- 8F  ADC A,A
  | SUB_B                   -- 90  SUB B
  | SUB_C                   -- 91  SUB C
  | SUB_D                   -- 92  SUB D
  | SUB_E                   -- 93  SUB E
  | SUB_H                   -- 94  SUB H
  | SUB_L                   -- 95  SUB L
  | SUB__HL                 -- 96  SUB (HL)
  | SUB_A                   -- 97  SUB A
  | SBC_A_B                 -- 98  SBC A,B
  | SBC_A_C                 -- 99  SBC A,C
  | SBC_A_D                 -- 9A  SBC A,D
  | SBC_A_E                 -- 9B  SBC A,E
  | SBC_A_H                 -- 9C  SBC A,H
  | SBC_A_L                 -- 9D  SBC A,L
  | SBC_A__HL               -- 9E  SBC A,(HL)
  | SBC_A_A                 -- 9F  SBC A,A
  | AND_B                   -- A0  AND B
  | AND_C                   -- A1  AND C
  | AND_D                   -- A2  AND D
  | AND_E                   -- A3  AND E
  | AND_H                   -- A4  AND H
  | AND_L                   -- A5  AND L
  | AND__HL                 -- A6  AND (HL)
  | AND_A                   -- A7  AND A
  | XOR_B                   -- A8  XOR B
  | XOR_C                   -- A9  XOR C
  | XOR_D                   -- AA  XOR D
  | XOR_E                   -- AB  XOR E
  | XOR_H                   -- AC  XOR H
  | XOR_L                   -- AD  XOR L
  | XOR__HL                 -- AE  XOR (HL)
  | XOR_A                   -- AF  XOR A
  | OR_B                    -- B0  OR B
  | OR_C                    -- B1  OR C
  | OR_D                    -- B2  OR D
  | OR_E                    -- B3  OR E
  | OR_H                    -- B4  OR H
  | OR_L                    -- B5  OR L
  | OR__HL                  -- B6  OR (HL)
  | OR_A                    -- B7  OR A
  | CP_B                    -- B8  CP B
  | CP_C                    -- B9  CP C
  | CP_D                    -- BA  CP D
  | CP_E                    -- BB  CP E
  | CP_H                    -- BC  CP H
  | CP_L                    -- BD  CP L
  | CP__HL                  -- BE  CP (HL)
  | CP_A                    -- BF  CP A
  | RET_NZ                  -- C0  RET NZ
  | POP_BC                  -- C1  POP BC
  | JP_NZ_a16 (nn : Word)   -- C2  JP NZ,a16
  | JP_a16 (nn : Word)      -- C3  JP a16
  | CALL_NZ_a16 (nn : Word) -- C4  CALL NZ,a16
  | PUSH_BC                 -- C5  PUSH BC
  | ADD_A_d8 (n : Byte)     -- C6  ADD A,d8
  | RST_0x00                -- C7  RST 0x00
  | RET_Z                   -- C8  RET Z
  | RET                     -- C9  RET
  | JP_Z_a16 (nn : Word)    -- CA  JP Z,a16
  | CALL_Z_a16 (nn : Word)  -- CC  CALL Z,a16
  | CALL_a16 (nn : Word)    -- CD  CALL a16
  | ADC_A_d8 (n : Byte)     -- CE  ADC A,d8
  | RST_0x08                -- CF  RST 0x08
  | RET_NC                  -- D0  RET NC
  | POP_DE                  -- D1  POP DE
  | JP_NC_a16 (nn : Word)   -- D2  JP NC,a16
  | UNDEFINED (op : Byte)   -- D3 DB DD E3 E4 EB EC ED F4 FC FD
  | CALL_NC_a16 (nn : Word) -- D4  CALL NC,a16
  | PUSH_DE                 -- D5  PUSH DE
  | SUB_d8 (n : Byte)       -- D6  SUB d8
  | RST_0x10                -- D7  RST 0x10
  | RET_C                   -- D8  RET C
  | RETI                    -- D9  RETI
  | JP_C_a16 (nn : Word)    -- DA  JP C,a16
  | CALL_C_a16 (nn : Word)  -- DC  CALL C,a16
  | SBC_A_d8 (n : Byte)     -- DE  SBC A,d8
  | RST_0x18                -- DF  RST 0x18
  | LDH__a8__A (a : Byte)   -- E0  LDH (a8),A
  | POP_HL                  -- E1  POP HL
  | LD__C__A                -- E2  LD (C),A
  | PUSH_HL                 -- E5  PUSH HL
  | AND_d8 (n : Byte)       -- E6  AND d8
  | RST_0x20                -- E7  RST 0x20
  | ADD_SP_r8 (e : Byte)    -- E8  ADD SP,r8
  | JP__HL                  -- E9  JP (HL)
  | LD__a16__A (nn : Word)  -- EA  LD (a16),A
  | XOR_d8 (n : Byte)       -- EE  XOR d8
  | RST_0x28                -- EF  RST 0x28
  | LDH_A__a8 (a : Byte)    -- F0  LDH A,(a8)
  | POP_AF                  -- F1  POP AF
  | LD_A__C                 -- F2  LD A,(C)
  | DI                      -- F3  DI
  | PUSH_AF                 -- F5  PUSH AF
  | OR_d8 (n : Byte)        -- F6  OR d8
  | RST_0x30                -- F7  RST 0x30
  | LD_HL_SP_r8 (e : Byte)  -- F8  LD HL,SP+r8
  | LD_SP_HL                -- F9  LD SP,HL
  | LD_A__a16 (nn : Word)   -- FA  LD A,(a16)
  | EI                      -- FB  EI
  | CP_d8 (n : Byte)        -- FE  CP d8
  | RST_0x38                -- FF  RST 0x38
  | PREFIX_CB               -- CB  PREFIX CB
  | RLC_B                   -- CB 00  RLC B
  | RLC_C                   -- CB 01  RLC C
  | RLC_D                   -- CB 02  RLC D
  | RLC_E                   -- CB 03  RLC E
  | RLC_H                   -- CB 04  RLC H
  | RLC_L                   -- CB 05  RLC L
  | RLC__HL                 -- CB 06  RLC (HL)
  | RLC_A                   -- CB 07  RLC A
  | RRC_B                   -- CB 08  RRC B
  | RRC_C                   -- CB 09  RRC C
  | RRC_D                   -- CB 0A  RRC D
  | RRC_E                   -- CB 0B  RRC E
  | RRC_H                   -- CB 0C  RRC H
  | RRC_L                   -- CB 0D  RRC L
  | RRC__HL                 -- CB 0E  RRC (HL)
  | RRC_A                   -- CB 0F  RRC A
  | RL_B                    -- CB 10  RL B
  | RL_C                    -- CB 11  RL C
  | RL_D                    -- CB 12  RL D
  | RL_E                    -- CB 13  RL E
  | RL_H                    -- CB 14  RL H
  | RL_L                    -- CB 15  RL L
  | RL__HL                  -- CB 16  RL (HL)
  | RL_A                    -- CB 17  RL A
  | RR_B                    -- CB 18  RR B
  | RR_C                    -- CB 19  RR C
  | RR_D                    -- CB 1A  RR D
  | RR_E                    -- CB 1B  RR E
  | RR_H                    -- CB 1C  RR H
  | RR_L                    -- CB 1D  RR L
  | RR__HL                  -- CB 1E  RR (HL)
  | RR_A                    -- CB 1F  RR A
  | SLA_B                   -- CB 20  SLA B
  | SLA_C                   -- CB 21  SLA C
  | SLA_D                   -- CB 22  SLA D
  | SLA_E                   -- CB 23  SLA E
  | SLA_H                   -- CB 24  SLA H
  | SLA_L                   -- CB 25  SLA L
  | SLA__HL                 -- CB 26  SLA (HL)
  | SLA_A                   -- CB 27  SLA A
  | SRA_B                   -- CB 28  SRA B
  | SRA_C                   -- CB 29  SRA C
  | SRA_D                   -- CB 2A  SRA D
  | SRA_E                   -- CB 2B  SRA E
  | SRA_H                   -- CB 2C  SRA H
  | SRA_L                   -- CB 2D  SRA L
  | SRA__HL                 -- CB 2E  SRA (HL)
  | SRA_A                   -- CB 2F  SRA A
  | SWAP_B                  -- CB 30  SWAP B
  | SWAP_C                  -- CB 31  SWAP C
  | SWAP_D                  -- CB 32  SWAP D
  | SWAP_E                  -- CB 33  SWAP E
  | SWAP_H                  -- CB 34  SWAP H
  | SWAP_L                  -- CB 35  SWAP L
  | SWAP__HL                -- CB 36  SWAP (HL)
  | SWAP_A                  -- CB 37  SWAP A
  | SRL_B                   -- CB 38  SRL B
  | SRL_C                   -- CB 39  SRL C
  | SRL_D                   -- CB 3A  SRL D
  | SRL_E                   -- CB 3B  SRL E
  | SRL_H                   -- CB 3C  SRL H
  | SRL_L                   -- CB 3D  SRL L
  | SRL__HL                 -- CB 3E  SRL (HL)
  | SRL_A                   -- CB 3F  SRL A
  | BIT_0_B                 -- CB 40  BIT 0,B
  | BIT_0_C                 -- CB 41  BIT 0,C
  | BIT_0_D                 -- CB 42  BIT 0,D
  | BIT_0_E                 -- CB 43  BIT 0,E
  | BIT_0_H                 -- CB 44  BIT 0,H
  | BIT_0_L                 -- CB 45  BIT 0,L
  | BIT_0__HL               -- CB 46  BIT 0,(HL)
  | BIT_0_A                 -- CB 47  BIT 0,A
  | BIT_1_B                 -- CB 48  BIT 1,B
  | BIT_1_C                 -- CB 49  BIT 1,C
  | BIT_1_D                 -- CB 4A  BIT 1,D
  | BIT_1_E                 -- CB 4B  BIT 1,E
  | BIT_1_H                 -- CB 4C  BIT 1,H
  | BIT_1_L                 -- CB 4D  BIT 1,L
  | BIT_1__HL               -- CB 4E  BIT 1,(HL)
  | BIT_1_A                 -- CB 4F  BIT 1,A
  | BIT_2_B                 -- CB 50  BIT 2,B
  | BIT_2_C                 -- CB 51  BIT 2,C
  | BIT_2_D                 -- CB 52  BIT 2,D
  | BIT_2_E                 -- CB 53  BIT 2,E
  | BIT_2_H                 -- CB 54  BIT 2,H
  | BIT_2_L                 -- CB 55  BIT 2,L
  | BIT_2__HL               -- CB 56  BIT 2,(HL)
  | BIT_2_A                 -- CB 57  BIT 2,A
  | BIT_3_B                 -- CB 58  BIT 3,B
  | BIT_3_C                 -- CB 59  BIT 3,C
  | BIT_3_D                 -- CB 5A  BIT 3,D
  | BIT_3_E                 -- CB 5B  BIT 3,E
  | BIT_3_H                 -- CB 5C  BIT 3,H
  | BIT_3_L                 -- CB 5D  BIT 3,L
  | BIT_3__HL               -- CB 5E  BIT 3,(HL)
  | BIT_3_A                 -- CB 5F  BIT 3,A
  | BIT_4_B                 -- CB 60  BIT 4,B
  | BIT_4_C                 -- CB 61  BIT 4,C
  | BIT_4_D                 -- CB 62  BIT 4,D
  | BIT_4_E                 -- CB 63  BIT 4,E
  | BIT_4_H                 -- CB 64  BIT 4,H
  | BIT_4_L                 -- CB 65  BIT 4,L
  | BIT_4__HL               -- CB 66  BIT 4,(HL)
  | BIT_4_A                 -- CB 67  BIT 4,A
  | BIT_5_B                 -- CB 68  BIT 5,B
  | BIT_5_C                 -- CB 69  BIT 5,C
  | BIT_5_D                 -- CB 6A  BIT 5,D
  | BIT_5_E                 -- CB 6B  BIT 5,E
  | BIT_5_H                 -- CB 6C  BIT 5,H
  | BIT_5_L                 -- CB 6D  BIT 5,L
  | BIT_5__HL               -- CB 6E  BIT 5,(HL)
  | BIT_5_A                 -- CB 6F  BIT 5,A
  | BIT_6_B                 -- CB 70  BIT 6,B
  | BIT_6_C                 -- CB 71  BIT 6,C
  | BIT_6_D                 -- CB 72  BIT 6,D
  | BIT_6_E                 -- CB 73  BIT 6,E
  | BIT_6_H                 -- CB 74  BIT 6,H
  | BIT_6_L                 -- CB 75  BIT 6,L
  | BIT_6__HL               -- CB 76  BIT 6,(HL)
  | BIT_6_A                 -- CB 77  BIT 6,A
  | BIT_7_B                 -- CB 78  BIT 7,B
  | BIT_7_C                 -- CB 79  BIT 7,C
  | BIT_7_D                 -- CB 7A  BIT 7,D
  | BIT_7_E                 -- CB 7B  BIT 7,E
  | BIT_7_H                 -- CB 7C  BIT 7,H
  | BIT_7_L                 -- CB 7D  BIT 7,L
  | BIT_7__HL               -- CB 7E  BIT 7,(HL)
  | BIT_7_A                 -- CB 7F  BIT 7,A
  | RES_0_B                 -- CB 80  RES 0,B
  | RES_0_C                 -- CB 81  RES 0,C
  | RES_0_D                 -- CB 82  RES 0,D
  | RES_0_E                 -- CB 83  RES 0,E
  | RES_0_H                 -- CB 84  RES 0,H
  | RES_0_L                 -- CB 85  RES 0,L
  | RES_0__HL               -- CB 86  RES 0,(HL)
  | RES_0_A                 -- CB 87  RES 0,A
  | RES_1_B                 -- CB 88  RES 1,B
  | RES_1_C                 -- CB 89  RES 1,C
  | RES_1_D                 -- CB 8A  RES 1,D
  | RES_1_E                 -- CB 8B  RES 1,E
  | RES_1_H                 -- CB 8C  RES 1,H
  | RES_1_L                 -- CB 8D  RES 1,L
  | RES_1__HL               -- CB 8E  RES 1,(HL)
  | RES_1_A                 -- CB 8F  RES 1,A
  | RES_2_B                 -- CB 90  RES 2,B
  | RES_2_C                 -- CB 91  RES 2,C
  | RES_2_D                 -- CB 92  RES 2,D
  | RES_2_E                 -- CB 93  RES 2,E
  | RES_2_H                 -- CB 94  RES 2,H
  | RES_2_L                 -- CB 95  RES 2,L
  | RES_2__HL               -- CB 96  RES 2,(HL)
  | RES_2_A                 -- CB 97  RES 2,A
  | RES_3_B                 -- CB 98  RES 3,B
  | RES_3_C                 -- CB 99  RES 3,C
  | RES_3_D                 -- CB 9A  RES 3,D
  | RES_3_E                 -- CB 9B  RES 3,E
  | RES_3_H                 -- CB 9C  RES 3,H
  | RES_3_L                 -- CB 9D  RES 3,L
  | RES_3__HL               -- CB 9E  RES 3,(HL)
  | RES_3_A                 -- CB 9F  RES 3,A
  | RES_4_B                 -- CB A0  RES 4,B
  | RES_4_C                 -- CB A1  RES 4,C
  | RES_4_D                 -- CB A2  RES 4,D
  | RES_4_E                 -- CB A3  RES 4,E
  | RES_4_H                 -- CB A4  RES 4,H
  | RES_4_L                 -- CB A5  RES 4,L
  | RES_4__HL               -- CB A6  RES 4,(HL)
  | RES_4_A                 -- CB A7  RES 4,A
  | RES_5_B                 -- CB A8  RES 5,B
  | RES_5_C                 -- CB A9  RES 5,C
  | RES_5_D                 -- CB AA  RES 5,D
  | RES_5_E                 -- CB AB  RES 5,E
  | RES_5_H                 -- CB AC  RES 5,H
  | RES_5_L                 -- CB AD  RES 5,L
  | RES_5__HL               -- CB AE  RES 5,(HL)
  | RES_5_A                 -- CB AF  RES 5,A
  | RES_6_B                 -- CB B0  RES 6,B
  | RES_6_C                 -- CB B1  RES 6,C
  | RES_6_D                 -- CB B2  RES 6,D
  | RES_6_E                 -- CB B3  RES 6,E
  | RES_6_H                 -- CB B4  RES 6,H
  | RES_6_L                 -- CB B5  RES 6,L
  | RES_6__HL               -- CB B6  RES 6,(HL)
  | RES_6_A                 -- CB B7  RES 6,A
  | RES_7_B                 -- CB B8  RES 7,B
  | RES_7_C                 -- CB B9  RES 7,C
  | RES_7_D                 -- CB BA  RES 7,D
  | RES_7_E                 -- CB BB  RES 7,E
  | RES_7_H                 -- CB BC  RES 7,H
  | RES_7_L                 -- CB BD  RES 7,L
  | RES_7__HL               -- CB BE  RES 7,(HL)
  | RES_7_A                 -- CB BF  RES 7,A
  | SET_0_B                 -- CB C0  SET 0,B
  | SET_0_C                 -- CB C1  SET 0,C
  | SET_0_D                 -- CB C2  SET 0,D
  | SET_0_E                 -- CB C3  SET 0,E
  | SET_0_H                 -- CB C4  SET 0,H
  | SET_0_L                 -- CB C5  SET 0,L
  | SET_0__HL               -- CB C6  SET 0,(HL)
  | SET_0_A                 -- CB C7  SET 0,A
  | SET_1_B                 -- CB C8  SET 1,B
  | SET_1_C                 -- CB C9  SET 1,C
  | SET_1_D                 -- CB CA  SET 1,D
  | SET_1_E                 -- CB CB  SET 1,E
  | SET_1_H                 -- CB CC  SET 1,H
  | SET_1_L                 -- CB CD  SET 1,L
  | SET_1__HL               -- CB CE  SET 1,(HL)
  | SET_1_A                 -- CB CF  SET 1,A
  | SET_2_B                 -- CB D0  SET 2,B
  | SET_2_C                 -- CB D1  SET 2,C
  | SET_2_D                 -- CB D2  SET 2,D
  | SET_2_E                 -- CB D3  SET 2,E
  | SET_2_H                 -- CB D4  SET 2,H
  | SET_2_L                 -- CB D5  SET 2,L
  | SET_2__HL               -- CB D6  SET 2,(HL)
  | SET_2_A                 -- CB D7  SET 2,A
  | SET_3_B                 -- CB D8  SET 3,B
  | SET_3_C                 -- CB D9  SET 3,C
  | SET_3_D                 -- CB DA  SET 3,D
  | SET_3_E                 -- CB DB  SET 3,E
  | SET_3_H                 -- CB DC  SET 3,H
  | SET_3_L                 -- CB DD  SET 3,L
  | SET_3__HL               -- CB DE  SET 3,(HL)
  | SET_3_A                 -- CB DF  SET 3,A
  | SET_4_B                 -- CB E0  SET 4,B
  | SET_4_C                 -- CB E1  SET 4,C
  | SET_4_D                 -- CB E2  SET 4,D
  | SET_4_E                 -- CB E3  SET 4,E
  | SET_4_H                 -- CB E4  SET 4,H
  | SET_4_L                 -- CB E5  SET 4,L
  | SET_4__HL               -- CB E6  SET 4,(HL)
  | SET_4_A                 -- CB E7  SET 4,A
  | SET_5_B                 -- CB E8  SET 5,B
  | SET_5_C                 -- CB E9  SET 5,C
  | SET_5_D                 -- CB EA  SET 5,D
  | SET_5_E                 -- CB EB  SET 5,E
  | SET_5_H                 -- CB EC  SET 5,H
  | SET_5_L                 -- CB ED  SET 5,L
  | SET_5__HL               -- CB EE  SET 5,(HL)
  | SET_5_A                 -- CB EF  SET 5,A
  | SET_6_B                 -- CB F0  SET 6,B
  | SET_6_C                 -- CB F1  SET 6,C
  | SET_6_D                 -- CB F2  SET 6,D
  | SET_6_E                 -- CB F3  SET 6,E
  | SET_6_H                 -- CB F4  SET 6,H
  | SET_6_L                 -- CB F5  SET 6,L
  | SET_6__HL               -- CB F6  SET 6,(HL)
  | SET_6_A                 -- CB F7  SET 6,A
  | SET_7_B                 -- CB F8  SET 7,B
  | SET_7_C                 -- CB F9  SET 7,C
  | SET_7_D                 -- CB FA  SET 7,D
  | SET_7_E                 -- CB FB  SET 7,E
  | SET_7_H                 -- CB FC  SET 7,H
  | SET_7_L                 -- CB FD  SET 7,L
  | SET_7__HL               -- CB FE  SET 7,(HL)
  | SET_7_A                 -- CB FF  SET 7,A
  deriving DecidableEq, Repr

end Sys2Proof
end

