-- ==== Sys2Proof/WellFormed.lean ====
section
/-! DEFINITION. WellFormed.lean: which terms of `Instr` are instructions of the ISA. Every operand has the width its
encoding admits by its type; the one check left is the opcode byte of an undefined encoding. -/

namespace Sys2Proof

/-- R113: the eleven primary-table bytes that have no instruction. -/
def undefinedOpcodes : List Byte :=
  [0xD3, 0xDB, 0xDD, 0xE3, 0xE4, 0xEB, 0xEC, 0xED, 0xF4, 0xFC, 0xFD]

/-- R113: `UNDEFINED` carries one of the eleven bytes. Every other constructor is well formed for all its operands. -/
def Instr.wf : Instr → Bool
  | .UNDEFINED op => undefinedOpcodes.contains op
  | _ => true

end Sys2Proof
end

