-- ==== Sys2Proof/Decode.lean ====
section
/-! DEFINITION. Decode.lean: bytes to instructions (R100 to R116, R120), by the field split of R102; and the encoder,
written row by row from spec/opcode_table.json (R122). The byte-order helpers of R62 and R106 stand here too. -/

namespace Sys2Proof

/-- R9: `hi : lo`, the 16-bit value of two bytes. -/
def pairOf (hi lo : Byte) : Word := hi ++ lo

/-- R9: `v[15:8]`. -/
def hiByte (v : Word) : Byte := v.extractLsb' 8 8

/-- R9: `v[7:0]`. -/
def loByte (v : Word) : Byte := v.extractLsb' 0 8

/-! ## Field tables (R102, R104, R105, R108, R109) -/

/-- R102: `x = op[7:6]`. -/
def fieldX (op : Byte) : Nat := op.toNat / 64
/-- R102: `y = op[5:3]`. -/
def fieldY (op : Byte) : Nat := op.toNat / 8 % 8
/-- R102: `z = op[2:0]`. -/
def fieldZ (op : Byte) : Nat := op.toNat % 8
/-- R102: `p = op[5:4]`. -/
def fieldP (op : Byte) : Nat := op.toNat / 16 % 4
/-- R102: `q = op[3]`. -/
def fieldQ (op : Byte) : Nat := op.toNat / 8 % 2

/-- R104: the 3-bit operand field (7 is A). -/
def operand8 : Nat → Operand8
  | 0 => .reg .B | 1 => .reg .C | 2 => .reg .D | 3 => .reg .E | 4 => .reg .H | 5 => .reg .L | 6 => .atHL | _ => .reg .A

/-- R105, table `rp` (3 is SP). -/
def reg16 : Nat → Reg16
  | 0 => .BC | 1 => .DE | 2 => .HL | _ => .SP

/-- R105, table `rp2` (3 is AF). -/
def stackPair : Nat → StackPair
  | 0 => .BC | 1 => .DE | 2 => .HL | _ => .AF

/-- R105: the condition field `y[1:0]` (3 is C). -/
def condOf : Nat → Cond
  | 0 => .NZ | 1 => .Z | 2 => .NC | _ => .C

/-- R108 (7 is CP). -/
def aluOp : Nat → AluOp
  | 0 => .add | 1 => .adc | 2 => .sub | 3 => .sbc | 4 => .and | 5 => .xor | 6 => .or | _ => .cp

/-- R109, `x = 0` (7 is SRL). -/
def rotOp : Nat → RotOp
  | 0 => .rlc | 1 => .rrc | 2 => .rl | 3 => .rr | 4 => .sla | 5 => .sra | 6 => .swap | _ => .srl

/-- A 3-bit field as a bit number (R109) or an RST index (R110). -/
def fin8 (n : Nat) : Fin 8 := ⟨n % 8, Nat.mod_lt n (by decide)⟩

/-! ## The rows of R111 and R112 that are merged by field -/

/-- R111 row `01yyyzzz`: LD r[y],r[z]. -/
def Instr.ldReg : Reg8 → Reg8 → Instr
  | .B, .B => .LD_B_B
  | .B, .C => .LD_B_C
  | .B, .D => .LD_B_D
  | .B, .E => .LD_B_E
  | .B, .H => .LD_B_H
  | .B, .L => .LD_B_L
  | .B, .A => .LD_B_A
  | .C, .B => .LD_C_B
  | .C, .C => .LD_C_C
  | .C, .D => .LD_C_D
  | .C, .E => .LD_C_E
  | .C, .H => .LD_C_H
  | .C, .L => .LD_C_L
  | .C, .A => .LD_C_A
  | .D, .B => .LD_D_B
  | .D, .C => .LD_D_C
  | .D, .D => .LD_D_D
  | .D, .E => .LD_D_E
  | .D, .H => .LD_D_H
  | .D, .L => .LD_D_L
  | .D, .A => .LD_D_A
  | .E, .B => .LD_E_B
  | .E, .C => .LD_E_C
  | .E, .D => .LD_E_D
  | .E, .E => .LD_E_E
  | .E, .H => .LD_E_H
  | .E, .L => .LD_E_L
  | .E, .A => .LD_E_A
  | .H, .B => .LD_H_B
  | .H, .C => .LD_H_C
  | .H, .D => .LD_H_D
  | .H, .E => .LD_H_E
  | .H, .H => .LD_H_H
  | .H, .L => .LD_H_L
  | .H, .A => .LD_H_A
  | .L, .B => .LD_L_B
  | .L, .C => .LD_L_C
  | .L, .D => .LD_L_D
  | .L, .E => .LD_L_E
  | .L, .H => .LD_L_H
  | .L, .L => .LD_L_L
  | .L, .A => .LD_L_A
  | .A, .B => .LD_A_B
  | .A, .C => .LD_A_C
  | .A, .D => .LD_A_D
  | .A, .E => .LD_A_E
  | .A, .H => .LD_A_H
  | .A, .L => .LD_A_L
  | .A, .A => .LD_A_A

/-- R111 row `01yyy110`: LD r[y],(HL). -/
def Instr.ldFromHL : Reg8 → Instr
  | .B => .LD_B__HL
  | .C => .LD_C__HL
  | .D => .LD_D__HL
  | .E => .LD_E__HL
  | .H => .LD_H__HL
  | .L => .LD_L__HL
  | .A => .LD_A__HL

/-- R111 row `01110zzz`: LD (HL),r[z]. -/
def Instr.ldToHL : Reg8 → Instr
  | .B => .LD__HL__B
  | .C => .LD__HL__C
  | .D => .LD__HL__D
  | .E => .LD__HL__E
  | .H => .LD__HL__H
  | .L => .LD__HL__L
  | .A => .LD__HL__A

/-- R111 rows `00yyy110`: LD r[y],d8 and LD (HL),d8. -/
def Instr.ldImm : Operand8 → Byte → Instr
  | .reg .B, n => .LD_B_d8 n
  | .reg .C, n => .LD_C_d8 n
  | .reg .D, n => .LD_D_d8 n
  | .reg .E, n => .LD_E_d8 n
  | .reg .H, n => .LD_H_d8 n
  | .reg .L, n => .LD_L_d8 n
  | .atHL, n => .LD__HL__d8 n
  | .reg .A, n => .LD_A_d8 n

/-- R108, R111 rows `10yyyzzz`: the ALU operations on a register or (HL). -/
def Instr.alu : AluOp → Operand8 → Instr
  | .add, .reg .B => .ADD_A_B
  | .add, .reg .C => .ADD_A_C
  | .add, .reg .D => .ADD_A_D
  | .add, .reg .E => .ADD_A_E
  | .add, .reg .H => .ADD_A_H
  | .add, .reg .L => .ADD_A_L
  | .add, .atHL => .ADD_A__HL
  | .add, .reg .A => .ADD_A_A
  | .adc, .reg .B => .ADC_A_B
  | .adc, .reg .C => .ADC_A_C
  | .adc, .reg .D => .ADC_A_D
  | .adc, .reg .E => .ADC_A_E
  | .adc, .reg .H => .ADC_A_H
  | .adc, .reg .L => .ADC_A_L
  | .adc, .atHL => .ADC_A__HL
  | .adc, .reg .A => .ADC_A_A
  | .sub, .reg .B => .SUB_B
  | .sub, .reg .C => .SUB_C
  | .sub, .reg .D => .SUB_D
  | .sub, .reg .E => .SUB_E
  | .sub, .reg .H => .SUB_H
  | .sub, .reg .L => .SUB_L
  | .sub, .atHL => .SUB__HL
  | .sub, .reg .A => .SUB_A
  | .sbc, .reg .B => .SBC_A_B
  | .sbc, .reg .C => .SBC_A_C
  | .sbc, .reg .D => .SBC_A_D
  | .sbc, .reg .E => .SBC_A_E
  | .sbc, .reg .H => .SBC_A_H
  | .sbc, .reg .L => .SBC_A_L
  | .sbc, .atHL => .SBC_A__HL
  | .sbc, .reg .A => .SBC_A_A
  | .and, .reg .B => .AND_B
  | .and, .reg .C => .AND_C
  | .and, .reg .D => .AND_D
  | .and, .reg .E => .AND_E
  | .and, .reg .H => .AND_H
  | .and, .reg .L => .AND_L
  | .and, .atHL => .AND__HL
  | .and, .reg .A => .AND_A
  | .xor, .reg .B => .XOR_B
  | .xor, .reg .C => .XOR_C
  | .xor, .reg .D => .XOR_D
  | .xor, .reg .E => .XOR_E
  | .xor, .reg .H => .XOR_H
  | .xor, .reg .L => .XOR_L
  | .xor, .atHL => .XOR__HL
  | .xor, .reg .A => .XOR_A
  | .or, .reg .B => .OR_B
  | .or, .reg .C => .OR_C
  | .or, .reg .D => .OR_D
  | .or, .reg .E => .OR_E
  | .or, .reg .H => .OR_H
  | .or, .reg .L => .OR_L
  | .or, .atHL => .OR__HL
  | .or, .reg .A => .OR_A
  | .cp, .reg .B => .CP_B
  | .cp, .reg .C => .CP_C
  | .cp, .reg .D => .CP_D
  | .cp, .reg .E => .CP_E
  | .cp, .reg .H => .CP_H
  | .cp, .reg .L => .CP_L
  | .cp, .atHL => .CP__HL
  | .cp, .reg .A => .CP_A

/-- R108, R111 rows `11yyy110`: the ALU operations on d8. -/
def Instr.aluImm : AluOp → Byte → Instr
  | .add, n => .ADD_A_d8 n
  | .adc, n => .ADC_A_d8 n
  | .sub, n => .SUB_d8 n
  | .sbc, n => .SBC_A_d8 n
  | .and, n => .AND_d8 n
  | .xor, n => .XOR_d8 n
  | .or, n => .OR_d8 n
  | .cp, n => .CP_d8 n

/-- R111 rows `00yyy100`: INC r[y] and INC (HL). -/
def Instr.inc8 : Operand8 → Instr
  | .reg .B => .INC_B
  | .reg .C => .INC_C
  | .reg .D => .INC_D
  | .reg .E => .INC_E
  | .reg .H => .INC_H
  | .reg .L => .INC_L
  | .atHL => .INC__HL
  | .reg .A => .INC_A

/-- R111 rows `00yyy101`: DEC r[y] and DEC (HL). -/
def Instr.dec8 : Operand8 → Instr
  | .reg .B => .DEC_B
  | .reg .C => .DEC_C
  | .reg .D => .DEC_D
  | .reg .E => .DEC_E
  | .reg .H => .DEC_H
  | .reg .L => .DEC_L
  | .atHL => .DEC__HL
  | .reg .A => .DEC_A

/-- R111 row `00pp0001`: LD rp[p],d16. -/
def Instr.ldImm16 : Reg16 → Word → Instr
  | .BC, nn => .LD_BC_d16 nn
  | .DE, nn => .LD_DE_d16 nn
  | .HL, nn => .LD_HL_d16 nn
  | .SP, nn => .LD_SP_d16 nn

/-- R111 row `00pp1001`: ADD HL,rp[p]. -/
def Instr.addHL : Reg16 → Instr
  | .BC => .ADD_HL_BC
  | .DE => .ADD_HL_DE
  | .HL => .ADD_HL_HL
  | .SP => .ADD_HL_SP

/-- R111 row `00pp0011`: INC rp[p]. -/
def Instr.inc16 : Reg16 → Instr
  | .BC => .INC_BC
  | .DE => .INC_DE
  | .HL => .INC_HL
  | .SP => .INC_SP

/-- R111 row `00pp1011`: DEC rp[p]. -/
def Instr.dec16 : Reg16 → Instr
  | .BC => .DEC_BC
  | .DE => .DEC_DE
  | .HL => .DEC_HL
  | .SP => .DEC_SP

/-- R111 row `11pp0101`: PUSH rp2[p]. -/
def Instr.push : StackPair → Instr
  | .BC => .PUSH_BC
  | .DE => .PUSH_DE
  | .HL => .PUSH_HL
  | .AF => .PUSH_AF

/-- R111 row `11pp0001`: POP rp2[p]. -/
def Instr.pop : StackPair → Instr
  | .BC => .POP_BC
  | .DE => .POP_DE
  | .HL => .POP_HL
  | .AF => .POP_AF

/-- R111 row `001cc000`: JR cc,r8. -/
def Instr.jrCond : Cond → Byte → Instr
  | .NZ, e => .JR_NZ_r8 e
  | .Z, e => .JR_Z_r8 e
  | .NC, e => .JR_NC_r8 e
  | .C, e => .JR_C_r8 e

/-- R111 row `110cc010`: JP cc,a16. -/
def Instr.jpCond : Cond → Word → Instr
  | .NZ, nn => .JP_NZ_a16 nn
  | .Z, nn => .JP_Z_a16 nn
  | .NC, nn => .JP_NC_a16 nn
  | .C, nn => .JP_C_a16 nn

/-- R111 row `110cc100`: CALL cc,a16. -/
def Instr.callCond : Cond → Word → Instr
  | .NZ, nn => .CALL_NZ_a16 nn
  | .Z, nn => .CALL_Z_a16 nn
  | .NC, nn => .CALL_NC_a16 nn
  | .C, nn => .CALL_C_a16 nn

/-- R111 row `110cc000`: RET cc. -/
def Instr.retCond : Cond → Instr
  | .NZ => .RET_NZ
  | .Z => .RET_Z
  | .NC => .RET_NC
  | .C => .RET_C

/-- R110, R111 row `11ttt111`: RST t*8. -/
def Instr.rst : Fin 8 → Instr
  | 0 => .RST_0x00
  | 1 => .RST_0x08
  | 2 => .RST_0x10
  | 3 => .RST_0x18
  | 4 => .RST_0x20
  | 5 => .RST_0x28
  | 6 => .RST_0x30
  | 7 => .RST_0x38

/-- R109, R112 rows `00yyyzzz`: the rotates and shifts. -/
def Instr.rot : RotOp → Operand8 → Instr
  | .rlc, .reg .B => .RLC_B
  | .rlc, .reg .C => .RLC_C
  | .rlc, .reg .D => .RLC_D
  | .rlc, .reg .E => .RLC_E
  | .rlc, .reg .H => .RLC_H
  | .rlc, .reg .L => .RLC_L
  | .rlc, .atHL => .RLC__HL
  | .rlc, .reg .A => .RLC_A
  | .rrc, .reg .B => .RRC_B
  | .rrc, .reg .C => .RRC_C
  | .rrc, .reg .D => .RRC_D
  | .rrc, .reg .E => .RRC_E
  | .rrc, .reg .H => .RRC_H
  | .rrc, .reg .L => .RRC_L
  | .rrc, .atHL => .RRC__HL
  | .rrc, .reg .A => .RRC_A
  | .rl, .reg .B => .RL_B
  | .rl, .reg .C => .RL_C
  | .rl, .reg .D => .RL_D
  | .rl, .reg .E => .RL_E
  | .rl, .reg .H => .RL_H
  | .rl, .reg .L => .RL_L
  | .rl, .atHL => .RL__HL
  | .rl, .reg .A => .RL_A
  | .rr, .reg .B => .RR_B
  | .rr, .reg .C => .RR_C
  | .rr, .reg .D => .RR_D
  | .rr, .reg .E => .RR_E
  | .rr, .reg .H => .RR_H
  | .rr, .reg .L => .RR_L
  | .rr, .atHL => .RR__HL
  | .rr, .reg .A => .RR_A
  | .sla, .reg .B => .SLA_B
  | .sla, .reg .C => .SLA_C
  | .sla, .reg .D => .SLA_D
  | .sla, .reg .E => .SLA_E
  | .sla, .reg .H => .SLA_H
  | .sla, .reg .L => .SLA_L
  | .sla, .atHL => .SLA__HL
  | .sla, .reg .A => .SLA_A
  | .sra, .reg .B => .SRA_B
  | .sra, .reg .C => .SRA_C
  | .sra, .reg .D => .SRA_D
  | .sra, .reg .E => .SRA_E
  | .sra, .reg .H => .SRA_H
  | .sra, .reg .L => .SRA_L
  | .sra, .atHL => .SRA__HL
  | .sra, .reg .A => .SRA_A
  | .swap, .reg .B => .SWAP_B
  | .swap, .reg .C => .SWAP_C
  | .swap, .reg .D => .SWAP_D
  | .swap, .reg .E => .SWAP_E
  | .swap, .reg .H => .SWAP_H
  | .swap, .reg .L => .SWAP_L
  | .swap, .atHL => .SWAP__HL
  | .swap, .reg .A => .SWAP_A
  | .srl, .reg .B => .SRL_B
  | .srl, .reg .C => .SRL_C
  | .srl, .reg .D => .SRL_D
  | .srl, .reg .E => .SRL_E
  | .srl, .reg .H => .SRL_H
  | .srl, .reg .L => .SRL_L
  | .srl, .atHL => .SRL__HL
  | .srl, .reg .A => .SRL_A

/-- R109, R112 row `01bbbzzz`: BIT b,z. -/
def Instr.bitOp : Fin 8 → Operand8 → Instr
  | 0, .reg .B => .BIT_0_B
  | 0, .reg .C => .BIT_0_C
  | 0, .reg .D => .BIT_0_D
  | 0, .reg .E => .BIT_0_E
  | 0, .reg .H => .BIT_0_H
  | 0, .reg .L => .BIT_0_L
  | 0, .atHL => .BIT_0__HL
  | 0, .reg .A => .BIT_0_A
  | 1, .reg .B => .BIT_1_B
  | 1, .reg .C => .BIT_1_C
  | 1, .reg .D => .BIT_1_D
  | 1, .reg .E => .BIT_1_E
  | 1, .reg .H => .BIT_1_H
  | 1, .reg .L => .BIT_1_L
  | 1, .atHL => .BIT_1__HL
  | 1, .reg .A => .BIT_1_A
  | 2, .reg .B => .BIT_2_B
  | 2, .reg .C => .BIT_2_C
  | 2, .reg .D => .BIT_2_D
  | 2, .reg .E => .BIT_2_E
  | 2, .reg .H => .BIT_2_H
  | 2, .reg .L => .BIT_2_L
  | 2, .atHL => .BIT_2__HL
  | 2, .reg .A => .BIT_2_A
  | 3, .reg .B => .BIT_3_B
  | 3, .reg .C => .BIT_3_C
  | 3, .reg .D => .BIT_3_D
  | 3, .reg .E => .BIT_3_E
  | 3, .reg .H => .BIT_3_H
  | 3, .reg .L => .BIT_3_L
  | 3, .atHL => .BIT_3__HL
  | 3, .reg .A => .BIT_3_A
  | 4, .reg .B => .BIT_4_B
  | 4, .reg .C => .BIT_4_C
  | 4, .reg .D => .BIT_4_D
  | 4, .reg .E => .BIT_4_E
  | 4, .reg .H => .BIT_4_H
  | 4, .reg .L => .BIT_4_L
  | 4, .atHL => .BIT_4__HL
  | 4, .reg .A => .BIT_4_A
  | 5, .reg .B => .BIT_5_B
  | 5, .reg .C => .BIT_5_C
  | 5, .reg .D => .BIT_5_D
  | 5, .reg .E => .BIT_5_E
  | 5, .reg .H => .BIT_5_H
  | 5, .reg .L => .BIT_5_L
  | 5, .atHL => .BIT_5__HL
  | 5, .reg .A => .BIT_5_A
  | 6, .reg .B => .BIT_6_B
  | 6, .reg .C => .BIT_6_C
  | 6, .reg .D => .BIT_6_D
  | 6, .reg .E => .BIT_6_E
  | 6, .reg .H => .BIT_6_H
  | 6, .reg .L => .BIT_6_L
  | 6, .atHL => .BIT_6__HL
  | 6, .reg .A => .BIT_6_A
  | 7, .reg .B => .BIT_7_B
  | 7, .reg .C => .BIT_7_C
  | 7, .reg .D => .BIT_7_D
  | 7, .reg .E => .BIT_7_E
  | 7, .reg .H => .BIT_7_H
  | 7, .reg .L => .BIT_7_L
  | 7, .atHL => .BIT_7__HL
  | 7, .reg .A => .BIT_7_A

/-- R109, R112 row `10bbbzzz`: RES b,z. -/
def Instr.resOp : Fin 8 → Operand8 → Instr
  | 0, .reg .B => .RES_0_B
  | 0, .reg .C => .RES_0_C
  | 0, .reg .D => .RES_0_D
  | 0, .reg .E => .RES_0_E
  | 0, .reg .H => .RES_0_H
  | 0, .reg .L => .RES_0_L
  | 0, .atHL => .RES_0__HL
  | 0, .reg .A => .RES_0_A
  | 1, .reg .B => .RES_1_B
  | 1, .reg .C => .RES_1_C
  | 1, .reg .D => .RES_1_D
  | 1, .reg .E => .RES_1_E
  | 1, .reg .H => .RES_1_H
  | 1, .reg .L => .RES_1_L
  | 1, .atHL => .RES_1__HL
  | 1, .reg .A => .RES_1_A
  | 2, .reg .B => .RES_2_B
  | 2, .reg .C => .RES_2_C
  | 2, .reg .D => .RES_2_D
  | 2, .reg .E => .RES_2_E
  | 2, .reg .H => .RES_2_H
  | 2, .reg .L => .RES_2_L
  | 2, .atHL => .RES_2__HL
  | 2, .reg .A => .RES_2_A
  | 3, .reg .B => .RES_3_B
  | 3, .reg .C => .RES_3_C
  | 3, .reg .D => .RES_3_D
  | 3, .reg .E => .RES_3_E
  | 3, .reg .H => .RES_3_H
  | 3, .reg .L => .RES_3_L
  | 3, .atHL => .RES_3__HL
  | 3, .reg .A => .RES_3_A
  | 4, .reg .B => .RES_4_B
  | 4, .reg .C => .RES_4_C
  | 4, .reg .D => .RES_4_D
  | 4, .reg .E => .RES_4_E
  | 4, .reg .H => .RES_4_H
  | 4, .reg .L => .RES_4_L
  | 4, .atHL => .RES_4__HL
  | 4, .reg .A => .RES_4_A
  | 5, .reg .B => .RES_5_B
  | 5, .reg .C => .RES_5_C
  | 5, .reg .D => .RES_5_D
  | 5, .reg .E => .RES_5_E
  | 5, .reg .H => .RES_5_H
  | 5, .reg .L => .RES_5_L
  | 5, .atHL => .RES_5__HL
  | 5, .reg .A => .RES_5_A
  | 6, .reg .B => .RES_6_B
  | 6, .reg .C => .RES_6_C
  | 6, .reg .D => .RES_6_D
  | 6, .reg .E => .RES_6_E
  | 6, .reg .H => .RES_6_H
  | 6, .reg .L => .RES_6_L
  | 6, .atHL => .RES_6__HL
  | 6, .reg .A => .RES_6_A
  | 7, .reg .B => .RES_7_B
  | 7, .reg .C => .RES_7_C
  | 7, .reg .D => .RES_7_D
  | 7, .reg .E => .RES_7_E
  | 7, .reg .H => .RES_7_H
  | 7, .reg .L => .RES_7_L
  | 7, .atHL => .RES_7__HL
  | 7, .reg .A => .RES_7_A

/-- R109, R112 row `11bbbzzz`: SET b,z. -/
def Instr.setOp : Fin 8 → Operand8 → Instr
  | 0, .reg .B => .SET_0_B
  | 0, .reg .C => .SET_0_C
  | 0, .reg .D => .SET_0_D
  | 0, .reg .E => .SET_0_E
  | 0, .reg .H => .SET_0_H
  | 0, .reg .L => .SET_0_L
  | 0, .atHL => .SET_0__HL
  | 0, .reg .A => .SET_0_A
  | 1, .reg .B => .SET_1_B
  | 1, .reg .C => .SET_1_C
  | 1, .reg .D => .SET_1_D
  | 1, .reg .E => .SET_1_E
  | 1, .reg .H => .SET_1_H
  | 1, .reg .L => .SET_1_L
  | 1, .atHL => .SET_1__HL
  | 1, .reg .A => .SET_1_A
  | 2, .reg .B => .SET_2_B
  | 2, .reg .C => .SET_2_C
  | 2, .reg .D => .SET_2_D
  | 2, .reg .E => .SET_2_E
  | 2, .reg .H => .SET_2_H
  | 2, .reg .L => .SET_2_L
  | 2, .atHL => .SET_2__HL
  | 2, .reg .A => .SET_2_A
  | 3, .reg .B => .SET_3_B
  | 3, .reg .C => .SET_3_C
  | 3, .reg .D => .SET_3_D
  | 3, .reg .E => .SET_3_E
  | 3, .reg .H => .SET_3_H
  | 3, .reg .L => .SET_3_L
  | 3, .atHL => .SET_3__HL
  | 3, .reg .A => .SET_3_A
  | 4, .reg .B => .SET_4_B
  | 4, .reg .C => .SET_4_C
  | 4, .reg .D => .SET_4_D
  | 4, .reg .E => .SET_4_E
  | 4, .reg .H => .SET_4_H
  | 4, .reg .L => .SET_4_L
  | 4, .atHL => .SET_4__HL
  | 4, .reg .A => .SET_4_A
  | 5, .reg .B => .SET_5_B
  | 5, .reg .C => .SET_5_C
  | 5, .reg .D => .SET_5_D
  | 5, .reg .E => .SET_5_E
  | 5, .reg .H => .SET_5_H
  | 5, .reg .L => .SET_5_L
  | 5, .atHL => .SET_5__HL
  | 5, .reg .A => .SET_5_A
  | 6, .reg .B => .SET_6_B
  | 6, .reg .C => .SET_6_C
  | 6, .reg .D => .SET_6_D
  | 6, .reg .E => .SET_6_E
  | 6, .reg .H => .SET_6_H
  | 6, .reg .L => .SET_6_L
  | 6, .atHL => .SET_6__HL
  | 6, .reg .A => .SET_6_A
  | 7, .reg .B => .SET_7_B
  | 7, .reg .C => .SET_7_C
  | 7, .reg .D => .SET_7_D
  | 7, .reg .E => .SET_7_E
  | 7, .reg .H => .SET_7_H
  | 7, .reg .L => .SET_7_L
  | 7, .atHL => .SET_7__HL
  | 7, .reg .A => .SET_7_A

/-! ## The decoder -/

/-- R111, the rows with `x = 0`. -/
def decodeX0 (op b1 : Byte) (nn : Word) : Instr :=
  let y := fieldY op
  let p := fieldP op
  match fieldZ op with
  | 0 =>
    match y with
    | 0 => .NOP
    | 1 => .LD__a16__SP nn
    | 2 => .STOP b1
    | 3 => .JR_r8 b1
    | _ => Instr.jrCond (condOf (y % 4)) b1
  | 1 => if fieldQ op = 0 then Instr.ldImm16 (reg16 p) nn else Instr.addHL (reg16 p)
  | 2 =>
    match y with
    | 0 => .LD__BC__A
    | 1 => .LD_A__BC
    | 2 => .LD__DE__A
    | 3 => .LD_A__DE
    | 4 => .LD__HLI__A
    | 5 => .LD_A__HLI
    | 6 => .LD__HLD__A
    | _ => .LD_A__HLD
  | 3 => if fieldQ op = 0 then Instr.inc16 (reg16 p) else Instr.dec16 (reg16 p)
  | 4 => Instr.inc8 (operand8 y)
  | 5 => Instr.dec8 (operand8 y)
  | 6 => Instr.ldImm (operand8 y) b1
  | _ =>
    match y with
    | 0 => .RLCA
    | 1 => .RRCA
    | 2 => .RLA
    | 3 => .RRA
    | 4 => .DAA
    | 5 => .CPL
    | 6 => .SCF
    | _ => .CCF

/-- R111, the rows with `x = 1`: loads between `r[y]` and `r[z]`, and HALT in the place of LD (HL),(HL) (R114). -/
def decodeX1 (op : Byte) : Instr :=
  match operand8 (fieldY op), operand8 (fieldZ op) with
  | .reg d, .reg r => Instr.ldReg d r
  | .reg d, .atHL => Instr.ldFromHL d
  | .atHL, .reg r => Instr.ldToHL r
  | .atHL, .atHL => .HALT

/-- R111 and R113, the rows with `x = 3`. -/
def decodeX3 (op b1 : Byte) (nn : Word) : Instr :=
  let y := fieldY op
  let p := fieldP op
  match fieldZ op with
  | 0 =>
    match y with
    | 4 => .LDH__a8__A b1
    | 5 => .ADD_SP_r8 b1
    | 6 => .LDH_A__a8 b1
    | 7 => .LD_HL_SP_r8 b1
    | _ => Instr.retCond (condOf y)
  | 1 =>
    if fieldQ op = 0 then Instr.pop (stackPair p)
    else
      match p with
      | 0 => .RET
      | 1 => .RETI
      | 2 => .JP__HL
      | _ => .LD_SP_HL
  | 2 =>
    match y with
    | 4 => .LD__C__A
    | 5 => .LD__a16__A nn
    | 6 => .LD_A__C
    | 7 => .LD_A__a16 nn
    | _ => Instr.jpCond (condOf y) nn
  | 3 =>
    match y with
    | 0 => .JP_a16 nn
    | 1 => .PREFIX_CB
    | 6 => .DI
    | 7 => .EI
    | _ => .UNDEFINED op
  | 4 => if y < 4 then Instr.callCond (condOf y) nn else .UNDEFINED op
  | 5 =>
    if fieldQ op = 0 then Instr.push (stackPair p)
    else if p = 0 then .CALL_a16 nn
    else .UNDEFINED op
  | 6 => Instr.aluImm (aluOp y) b1
  | _ => Instr.rst (fin8 y)

/-- R111: the primary table. `b1` and `b2` are the operand bytes in address order; an opcode that takes fewer ignores
the rest. -/
def decodePrimary (op b1 b2 : Byte) : Instr :=
  match fieldX op with
  | 0 => decodeX0 op b1 (pairOf b2 b1)
  | 1 => decodeX1 op
  | 2 => Instr.alu (aluOp (fieldY op)) (operand8 (fieldZ op))
  | _ => decodeX3 op b1 (pairOf b2 b1)

/-- R112: the CB table. -/
def decodeCB (op : Byte) : Instr :=
  match fieldX op with
  | 0 => Instr.rot (rotOp (fieldY op)) (operand8 (fieldZ op))
  | 1 => Instr.bitOp (fin8 (fieldY op)) (operand8 (fieldZ op))
  | 2 => Instr.resOp (fin8 (fieldY op)) (operand8 (fieldZ op))
  | _ => Instr.setOp (fin8 (fieldY op)) (operand8 (fieldZ op))

/-- R120: decoding is total on bytes. The instruction that begins with byte `b0`, given the two bytes after it (R103,
R115: `0xCB` and the byte after it are one instruction). -/
def decodeBytes (b0 b1 b2 : Byte) : Instr :=
  if b0 = 0xCB then decodeCB b1 else decodePrimary b0 b1 b2

/-- R103, R111 column `len`: how many bytes follow the first byte `op`. The byte after `0xCB` (R115) and the byte STOP
ignores (R116) count. -/
def bytesAfter (op : Byte) : Nat :=
  if [0x01, 0x11, 0x21, 0x31, 0x08, 0xC2, 0xC3, 0xCA, 0xD2, 0xDA, 0xC4, 0xCC, 0xCD, 0xD4, 0xDC, 0xEA, 0xFA].contains op
  then 2
  else if [0x06, 0x0E, 0x16, 0x1E, 0x26, 0x2E, 0x36, 0x3E, 0xC6, 0xCE, 0xD6, 0xDE, 0xE6, 0xEE, 0xF6, 0xFE,
      0x18, 0x20, 0x28, 0x30, 0x38, 0xE0, 0xE8, 0xF0, 0xF8, 0x10, 0xCB].contains op
  then 1
  else 0

/-- Why a byte list is no instruction: it ends before the instruction does. (Every sequence of three bytes decodes, R120.) -/
inductive DecodeError where
  | noBytes
  | missingOperand (op : Byte)
  deriving DecidableEq, Repr

/-- The first instruction of a byte list, and the bytes after it. The one byte `0xCB` with nothing after it is the
`PREFIX_CB` row of the table (R335). -/
def decode : List Byte → Except DecodeError (Instr × List Byte)
  | [] => .error .noBytes
  | b0 :: rest =>
    if b0 = 0xCB ∧ rest = [] then .ok (.PREFIX_CB, [])
    else
      match bytesAfter b0, rest with
      | 0, rest => .ok (decodeBytes b0 0 0, rest)
      | 1, b1 :: rest => .ok (decodeBytes b0 b1 0, rest)
      | 2, b1 :: b2 :: rest => .ok (decodeBytes b0 b1 b2, rest)
      | _, _ => .error (.missingOperand b0)

/-! ## The encoder -/

/-- R122: the instruction's bytes, opcode by opcode as the rows of spec/opcode_table.json give `match`, followed by its
operand bytes in address order (R101, R106). -/
def encode (i : Instr) : List Byte :=
  match i with
  | .NOP => [0x00]
  | .LD_BC_d16 nn => [0x01, loByte nn, hiByte nn]
  | .LD__BC__A => [0x02]
  | .INC_BC => [0x03]
  | .INC_B => [0x04]
  | .DEC_B => [0x05]
  | .LD_B_d8 n => [0x06, n]
  | .RLCA => [0x07]
  | .LD__a16__SP nn => [0x08, loByte nn, hiByte nn]
  | .ADD_HL_BC => [0x09]
  | .LD_A__BC => [0x0A]
  | .DEC_BC => [0x0B]
  | .INC_C => [0x0C]
  | .DEC_C => [0x0D]
  | .LD_C_d8 n => [0x0E, n]
  | .RRCA => [0x0F]
  | .STOP pad => [0x10, pad]
  | .LD_DE_d16 nn => [0x11, loByte nn, hiByte nn]
  | .LD__DE__A => [0x12]
  | .INC_DE => [0x13]
  | .INC_D => [0x14]
  | .DEC_D => [0x15]
  | .LD_D_d8 n => [0x16, n]
  | .RLA => [0x17]
  | .JR_r8 e => [0x18, e]
  | .ADD_HL_DE => [0x19]
  | .LD_A__DE => [0x1A]
  | .DEC_DE => [0x1B]
  | .INC_E => [0x1C]
  | .DEC_E => [0x1D]
  | .LD_E_d8 n => [0x1E, n]
  | .RRA => [0x1F]
  | .JR_NZ_r8 e => [0x20, e]
  | .LD_HL_d16 nn => [0x21, loByte nn, hiByte nn]
  | .LD__HLI__A => [0x22]
  | .INC_HL => [0x23]
  | .INC_H => [0x24]
  | .DEC_H => [0x25]
  | .LD_H_d8 n => [0x26, n]
  | .DAA => [0x27]
  | .JR_Z_r8 e => [0x28, e]
  | .ADD_HL_HL => [0x29]
  | .LD_A__HLI => [0x2A]
  | .DEC_HL => [0x2B]
  | .INC_L => [0x2C]
  | .DEC_L => [0x2D]
  | .LD_L_d8 n => [0x2E, n]
  | .CPL => [0x2F]
  | .JR_NC_r8 e => [0x30, e]
  | .LD_SP_d16 nn => [0x31, loByte nn, hiByte nn]
  | .LD__HLD__A => [0x32]
  | .INC_SP => [0x33]
  | .INC__HL => [0x34]
  | .DEC__HL => [0x35]
  | .LD__HL__d8 n => [0x36, n]
  | .SCF => [0x37]
  | .JR_C_r8 e => [0x38, e]
  | .ADD_HL_SP => [0x39]
  | .LD_A__HLD => [0x3A]
  | .DEC_SP => [0x3B]
  | .INC_A => [0x3C]
  | .DEC_A => [0x3D]
  | .LD_A_d8 n => [0x3E, n]
  | .CCF => [0x3F]
  | .LD_B_B => [0x40]
  | .LD_B_C => [0x41]
  | .LD_B_D => [0x42]
  | .LD_B_E => [0x43]
  | .LD_B_H => [0x44]
  | .LD_B_L => [0x45]
  | .LD_B__HL => [0x46]
  | .LD_B_A => [0x47]
  | .LD_C_B => [0x48]
  | .LD_C_C => [0x49]
  | .LD_C_D => [0x4A]
  | .LD_C_E => [0x4B]
  | .LD_C_H => [0x4C]
  | .LD_C_L => [0x4D]
  | .LD_C__HL => [0x4E]
  | .LD_C_A => [0x4F]
  | .LD_D_B => [0x50]
  | .LD_D_C => [0x51]
  | .LD_D_D => [0x52]
  | .LD_D_E => [0x53]
  | .LD_D_H => [0x54]
  | .LD_D_L => [0x55]
  | .LD_D__HL => [0x56]
  | .LD_D_A => [0x57]
  | .LD_E_B => [0x58]
  | .LD_E_C => [0x59]
  | .LD_E_D => [0x5A]
  | .LD_E_E => [0x5B]
  | .LD_E_H => [0x5C]
  | .LD_E_L => [0x5D]
  | .LD_E__HL => [0x5E]
  | .LD_E_A => [0x5F]
  | .LD_H_B => [0x60]
  | .LD_H_C => [0x61]
  | .LD_H_D => [0x62]
  | .LD_H_E => [0x63]
  | .LD_H_H => [0x64]
  | .LD_H_L => [0x65]
  | .LD_H__HL => [0x66]
  | .LD_H_A => [0x67]
  | .LD_L_B => [0x68]
  | .LD_L_C => [0x69]
  | .LD_L_D => [0x6A]
  | .LD_L_E => [0x6B]
  | .LD_L_H => [0x6C]
  | .LD_L_L => [0x6D]
  | .LD_L__HL => [0x6E]
  | .LD_L_A => [0x6F]
  | .LD__HL__B => [0x70]
  | .LD__HL__C => [0x71]
  | .LD__HL__D => [0x72]
  | .LD__HL__E => [0x73]
  | .LD__HL__H => [0x74]
  | .LD__HL__L => [0x75]
  | .HALT => [0x76]
  | .LD__HL__A => [0x77]
  | .LD_A_B => [0x78]
  | .LD_A_C => [0x79]
  | .LD_A_D => [0x7A]
  | .LD_A_E => [0x7B]
  | .LD_A_H => [0x7C]
  | .LD_A_L => [0x7D]
  | .LD_A__HL => [0x7E]
  | .LD_A_A => [0x7F]
  | .ADD_A_B => [0x80]
  | .ADD_A_C => [0x81]
  | .ADD_A_D => [0x82]
  | .ADD_A_E => [0x83]
  | .ADD_A_H => [0x84]
  | .ADD_A_L => [0x85]
  | .ADD_A__HL => [0x86]
  | .ADD_A_A => [0x87]
  | .ADC_A_B => [0x88]
  | .ADC_A_C => [0x89]
  | .ADC_A_D => [0x8A]
  | .ADC_A_E => [0x8B]
  | .ADC_A_H => [0x8C]
  | .ADC_A_L => [0x8D]
  | .ADC_A__HL => [0x8E]
  | .ADC_A_A => [0x8F]
  | .SUB_B => [0x90]
  | .SUB_C => [0x91]
  | .SUB_D => [0x92]
  | .SUB_E => [0x93]
  | .SUB_H => [0x94]
  | .SUB_L => [0x95]
  | .SUB__HL => [0x96]
  | .SUB_A => [0x97]
  | .SBC_A_B => [0x98]
  | .SBC_A_C => [0x99]
  | .SBC_A_D => [0x9A]
  | .SBC_A_E => [0x9B]
  | .SBC_A_H => [0x9C]
  | .SBC_A_L => [0x9D]
  | .SBC_A__HL => [0x9E]
  | .SBC_A_A => [0x9F]
  | .AND_B => [0xA0]
  | .AND_C => [0xA1]
  | .AND_D => [0xA2]
  | .AND_E => [0xA3]
  | .AND_H => [0xA4]
  | .AND_L => [0xA5]
  | .AND__HL => [0xA6]
  | .AND_A => [0xA7]
  | .XOR_B => [0xA8]
  | .XOR_C => [0xA9]
  | .XOR_D => [0xAA]
  | .XOR_E => [0xAB]
  | .XOR_H => [0xAC]
  | .XOR_L => [0xAD]
  | .XOR__HL => [0xAE]
  | .XOR_A => [0xAF]
  | .OR_B => [0xB0]
  | .OR_C => [0xB1]
  | .OR_D => [0xB2]
  | .OR_E => [0xB3]
  | .OR_H => [0xB4]
  | .OR_L => [0xB5]
  | .OR__HL => [0xB6]
  | .OR_A => [0xB7]
  | .CP_B => [0xB8]
  | .CP_C => [0xB9]
  | .CP_D => [0xBA]
  | .CP_E => [0xBB]
  | .CP_H => [0xBC]
  | .CP_L => [0xBD]
  | .CP__HL => [0xBE]
  | .CP_A => [0xBF]
  | .RET_NZ => [0xC0]
  | .POP_BC => [0xC1]
  | .JP_NZ_a16 nn => [0xC2, loByte nn, hiByte nn]
  | .JP_a16 nn => [0xC3, loByte nn, hiByte nn]
  | .CALL_NZ_a16 nn => [0xC4, loByte nn, hiByte nn]
  | .PUSH_BC => [0xC5]
  | .ADD_A_d8 n => [0xC6, n]
  | .RST_0x00 => [0xC7]
  | .RET_Z => [0xC8]
  | .RET => [0xC9]
  | .JP_Z_a16 nn => [0xCA, loByte nn, hiByte nn]
  | .CALL_Z_a16 nn => [0xCC, loByte nn, hiByte nn]
  | .CALL_a16 nn => [0xCD, loByte nn, hiByte nn]
  | .ADC_A_d8 n => [0xCE, n]
  | .RST_0x08 => [0xCF]
  | .RET_NC => [0xD0]
  | .POP_DE => [0xD1]
  | .JP_NC_a16 nn => [0xD2, loByte nn, hiByte nn]
  | .UNDEFINED op => [op]
  | .CALL_NC_a16 nn => [0xD4, loByte nn, hiByte nn]
  | .PUSH_DE => [0xD5]
  | .SUB_d8 n => [0xD6, n]
  | .RST_0x10 => [0xD7]
  | .RET_C => [0xD8]
  | .RETI => [0xD9]
  | .JP_C_a16 nn => [0xDA, loByte nn, hiByte nn]
  | .CALL_C_a16 nn => [0xDC, loByte nn, hiByte nn]
  | .SBC_A_d8 n => [0xDE, n]
  | .RST_0x18 => [0xDF]
  | .LDH__a8__A a => [0xE0, a]
  | .POP_HL => [0xE1]
  | .LD__C__A => [0xE2]
  | .PUSH_HL => [0xE5]
  | .AND_d8 n => [0xE6, n]
  | .RST_0x20 => [0xE7]
  | .ADD_SP_r8 e => [0xE8, e]
  | .JP__HL => [0xE9]
  | .LD__a16__A nn => [0xEA, loByte nn, hiByte nn]
  | .XOR_d8 n => [0xEE, n]
  | .RST_0x28 => [0xEF]
  | .LDH_A__a8 a => [0xF0, a]
  | .POP_AF => [0xF1]
  | .LD_A__C => [0xF2]
  | .DI => [0xF3]
  | .PUSH_AF => [0xF5]
  | .OR_d8 n => [0xF6, n]
  | .RST_0x30 => [0xF7]
  | .LD_HL_SP_r8 e => [0xF8, e]
  | .LD_SP_HL => [0xF9]
  | .LD_A__a16 nn => [0xFA, loByte nn, hiByte nn]
  | .EI => [0xFB]
  | .CP_d8 n => [0xFE, n]
  | .RST_0x38 => [0xFF]
  | .PREFIX_CB => [0xCB]
  | .RLC_B => [0xCB, 0x00]
  | .RLC_C => [0xCB, 0x01]
  | .RLC_D => [0xCB, 0x02]
  | .RLC_E => [0xCB, 0x03]
  | .RLC_H => [0xCB, 0x04]
  | .RLC_L => [0xCB, 0x05]
  | .RLC__HL => [0xCB, 0x06]
  | .RLC_A => [0xCB, 0x07]
  | .RRC_B => [0xCB, 0x08]
  | .RRC_C => [0xCB, 0x09]
  | .RRC_D => [0xCB, 0x0A]
  | .RRC_E => [0xCB, 0x0B]
  | .RRC_H => [0xCB, 0x0C]
  | .RRC_L => [0xCB, 0x0D]
  | .RRC__HL => [0xCB, 0x0E]
  | .RRC_A => [0xCB, 0x0F]
  | .RL_B => [0xCB, 0x10]
  | .RL_C => [0xCB, 0x11]
  | .RL_D => [0xCB, 0x12]
  | .RL_E => [0xCB, 0x13]
  | .RL_H => [0xCB, 0x14]
  | .RL_L => [0xCB, 0x15]
  | .RL__HL => [0xCB, 0x16]
  | .RL_A => [0xCB, 0x17]
  | .RR_B => [0xCB, 0x18]
  | .RR_C => [0xCB, 0x19]
  | .RR_D => [0xCB, 0x1A]
  | .RR_E => [0xCB, 0x1B]
  | .RR_H => [0xCB, 0x1C]
  | .RR_L => [0xCB, 0x1D]
  | .RR__HL => [0xCB, 0x1E]
  | .RR_A => [0xCB, 0x1F]
  | .SLA_B => [0xCB, 0x20]
  | .SLA_C => [0xCB, 0x21]
  | .SLA_D => [0xCB, 0x22]
  | .SLA_E => [0xCB, 0x23]
  | .SLA_H => [0xCB, 0x24]
  | .SLA_L => [0xCB, 0x25]
  | .SLA__HL => [0xCB, 0x26]
  | .SLA_A => [0xCB, 0x27]
  | .SRA_B => [0xCB, 0x28]
  | .SRA_C => [0xCB, 0x29]
  | .SRA_D => [0xCB, 0x2A]
  | .SRA_E => [0xCB, 0x2B]
  | .SRA_H => [0xCB, 0x2C]
  | .SRA_L => [0xCB, 0x2D]
  | .SRA__HL => [0xCB, 0x2E]
  | .SRA_A => [0xCB, 0x2F]
  | .SWAP_B => [0xCB, 0x30]
  | .SWAP_C => [0xCB, 0x31]
  | .SWAP_D => [0xCB, 0x32]
  | .SWAP_E => [0xCB, 0x33]
  | .SWAP_H => [0xCB, 0x34]
  | .SWAP_L => [0xCB, 0x35]
  | .SWAP__HL => [0xCB, 0x36]
  | .SWAP_A => [0xCB, 0x37]
  | .SRL_B => [0xCB, 0x38]
  | .SRL_C => [0xCB, 0x39]
  | .SRL_D => [0xCB, 0x3A]
  | .SRL_E => [0xCB, 0x3B]
  | .SRL_H => [0xCB, 0x3C]
  | .SRL_L => [0xCB, 0x3D]
  | .SRL__HL => [0xCB, 0x3E]
  | .SRL_A => [0xCB, 0x3F]
  | .BIT_0_B => [0xCB, 0x40]
  | .BIT_0_C => [0xCB, 0x41]
  | .BIT_0_D => [0xCB, 0x42]
  | .BIT_0_E => [0xCB, 0x43]
  | .BIT_0_H => [0xCB, 0x44]
  | .BIT_0_L => [0xCB, 0x45]
  | .BIT_0__HL => [0xCB, 0x46]
  | .BIT_0_A => [0xCB, 0x47]
  | .BIT_1_B => [0xCB, 0x48]
  | .BIT_1_C => [0xCB, 0x49]
  | .BIT_1_D => [0xCB, 0x4A]
  | .BIT_1_E => [0xCB, 0x4B]
  | .BIT_1_H => [0xCB, 0x4C]
  | .BIT_1_L => [0xCB, 0x4D]
  | .BIT_1__HL => [0xCB, 0x4E]
  | .BIT_1_A => [0xCB, 0x4F]
  | .BIT_2_B => [0xCB, 0x50]
  | .BIT_2_C => [0xCB, 0x51]
  | .BIT_2_D => [0xCB, 0x52]
  | .BIT_2_E => [0xCB, 0x53]
  | .BIT_2_H => [0xCB, 0x54]
  | .BIT_2_L => [0xCB, 0x55]
  | .BIT_2__HL => [0xCB, 0x56]
  | .BIT_2_A => [0xCB, 0x57]
  | .BIT_3_B => [0xCB, 0x58]
  | .BIT_3_C => [0xCB, 0x59]
  | .BIT_3_D => [0xCB, 0x5A]
  | .BIT_3_E => [0xCB, 0x5B]
  | .BIT_3_H => [0xCB, 0x5C]
  | .BIT_3_L => [0xCB, 0x5D]
  | .BIT_3__HL => [0xCB, 0x5E]
  | .BIT_3_A => [0xCB, 0x5F]
  | .BIT_4_B => [0xCB, 0x60]
  | .BIT_4_C => [0xCB, 0x61]
  | .BIT_4_D => [0xCB, 0x62]
  | .BIT_4_E => [0xCB, 0x63]
  | .BIT_4_H => [0xCB, 0x64]
  | .BIT_4_L => [0xCB, 0x65]
  | .BIT_4__HL => [0xCB, 0x66]
  | .BIT_4_A => [0xCB, 0x67]
  | .BIT_5_B => [0xCB, 0x68]
  | .BIT_5_C => [0xCB, 0x69]
  | .BIT_5_D => [0xCB, 0x6A]
  | .BIT_5_E => [0xCB, 0x6B]
  | .BIT_5_H => [0xCB, 0x6C]
  | .BIT_5_L => [0xCB, 0x6D]
  | .BIT_5__HL => [0xCB, 0x6E]
  | .BIT_5_A => [0xCB, 0x6F]
  | .BIT_6_B => [0xCB, 0x70]
  | .BIT_6_C => [0xCB, 0x71]
  | .BIT_6_D => [0xCB, 0x72]
  | .BIT_6_E => [0xCB, 0x73]
  | .BIT_6_H => [0xCB, 0x74]
  | .BIT_6_L => [0xCB, 0x75]
  | .BIT_6__HL => [0xCB, 0x76]
  | .BIT_6_A => [0xCB, 0x77]
  | .BIT_7_B => [0xCB, 0x78]
  | .BIT_7_C => [0xCB, 0x79]
  | .BIT_7_D => [0xCB, 0x7A]
  | .BIT_7_E => [0xCB, 0x7B]
  | .BIT_7_H => [0xCB, 0x7C]
  | .BIT_7_L => [0xCB, 0x7D]
  | .BIT_7__HL => [0xCB, 0x7E]
  | .BIT_7_A => [0xCB, 0x7F]
  | .RES_0_B => [0xCB, 0x80]
  | .RES_0_C => [0xCB, 0x81]
  | .RES_0_D => [0xCB, 0x82]
  | .RES_0_E => [0xCB, 0x83]
  | .RES_0_H => [0xCB, 0x84]
  | .RES_0_L => [0xCB, 0x85]
  | .RES_0__HL => [0xCB, 0x86]
  | .RES_0_A => [0xCB, 0x87]
  | .RES_1_B => [0xCB, 0x88]
  | .RES_1_C => [0xCB, 0x89]
  | .RES_1_D => [0xCB, 0x8A]
  | .RES_1_E => [0xCB, 0x8B]
  | .RES_1_H => [0xCB, 0x8C]
  | .RES_1_L => [0xCB, 0x8D]
  | .RES_1__HL => [0xCB, 0x8E]
  | .RES_1_A => [0xCB, 0x8F]
  | .RES_2_B => [0xCB, 0x90]
  | .RES_2_C => [0xCB, 0x91]
  | .RES_2_D => [0xCB, 0x92]
  | .RES_2_E => [0xCB, 0x93]
  | .RES_2_H => [0xCB, 0x94]
  | .RES_2_L => [0xCB, 0x95]
  | .RES_2__HL => [0xCB, 0x96]
  | .RES_2_A => [0xCB, 0x97]
  | .RES_3_B => [0xCB, 0x98]
  | .RES_3_C => [0xCB, 0x99]
  | .RES_3_D => [0xCB, 0x9A]
  | .RES_3_E => [0xCB, 0x9B]
  | .RES_3_H => [0xCB, 0x9C]
  | .RES_3_L => [0xCB, 0x9D]
  | .RES_3__HL => [0xCB, 0x9E]
  | .RES_3_A => [0xCB, 0x9F]
  | .RES_4_B => [0xCB, 0xA0]
  | .RES_4_C => [0xCB, 0xA1]
  | .RES_4_D => [0xCB, 0xA2]
  | .RES_4_E => [0xCB, 0xA3]
  | .RES_4_H => [0xCB, 0xA4]
  | .RES_4_L => [0xCB, 0xA5]
  | .RES_4__HL => [0xCB, 0xA6]
  | .RES_4_A => [0xCB, 0xA7]
  | .RES_5_B => [0xCB, 0xA8]
  | .RES_5_C => [0xCB, 0xA9]
  | .RES_5_D => [0xCB, 0xAA]
  | .RES_5_E => [0xCB, 0xAB]
  | .RES_5_H => [0xCB, 0xAC]
  | .RES_5_L => [0xCB, 0xAD]
  | .RES_5__HL => [0xCB, 0xAE]
  | .RES_5_A => [0xCB, 0xAF]
  | .RES_6_B => [0xCB, 0xB0]
  | .RES_6_C => [0xCB, 0xB1]
  | .RES_6_D => [0xCB, 0xB2]
  | .RES_6_E => [0xCB, 0xB3]
  | .RES_6_H => [0xCB, 0xB4]
  | .RES_6_L => [0xCB, 0xB5]
  | .RES_6__HL => [0xCB, 0xB6]
  | .RES_6_A => [0xCB, 0xB7]
  | .RES_7_B => [0xCB, 0xB8]
  | .RES_7_C => [0xCB, 0xB9]
  | .RES_7_D => [0xCB, 0xBA]
  | .RES_7_E => [0xCB, 0xBB]
  | .RES_7_H => [0xCB, 0xBC]
  | .RES_7_L => [0xCB, 0xBD]
  | .RES_7__HL => [0xCB, 0xBE]
  | .RES_7_A => [0xCB, 0xBF]
  | .SET_0_B => [0xCB, 0xC0]
  | .SET_0_C => [0xCB, 0xC1]
  | .SET_0_D => [0xCB, 0xC2]
  | .SET_0_E => [0xCB, 0xC3]
  | .SET_0_H => [0xCB, 0xC4]
  | .SET_0_L => [0xCB, 0xC5]
  | .SET_0__HL => [0xCB, 0xC6]
  | .SET_0_A => [0xCB, 0xC7]
  | .SET_1_B => [0xCB, 0xC8]
  | .SET_1_C => [0xCB, 0xC9]
  | .SET_1_D => [0xCB, 0xCA]
  | .SET_1_E => [0xCB, 0xCB]
  | .SET_1_H => [0xCB, 0xCC]
  | .SET_1_L => [0xCB, 0xCD]
  | .SET_1__HL => [0xCB, 0xCE]
  | .SET_1_A => [0xCB, 0xCF]
  | .SET_2_B => [0xCB, 0xD0]
  | .SET_2_C => [0xCB, 0xD1]
  | .SET_2_D => [0xCB, 0xD2]
  | .SET_2_E => [0xCB, 0xD3]
  | .SET_2_H => [0xCB, 0xD4]
  | .SET_2_L => [0xCB, 0xD5]
  | .SET_2__HL => [0xCB, 0xD6]
  | .SET_2_A => [0xCB, 0xD7]
  | .SET_3_B => [0xCB, 0xD8]
  | .SET_3_C => [0xCB, 0xD9]
  | .SET_3_D => [0xCB, 0xDA]
  | .SET_3_E => [0xCB, 0xDB]
  | .SET_3_H => [0xCB, 0xDC]
  | .SET_3_L => [0xCB, 0xDD]
  | .SET_3__HL => [0xCB, 0xDE]
  | .SET_3_A => [0xCB, 0xDF]
  | .SET_4_B => [0xCB, 0xE0]
  | .SET_4_C => [0xCB, 0xE1]
  | .SET_4_D => [0xCB, 0xE2]
  | .SET_4_E => [0xCB, 0xE3]
  | .SET_4_H => [0xCB, 0xE4]
  | .SET_4_L => [0xCB, 0xE5]
  | .SET_4__HL => [0xCB, 0xE6]
  | .SET_4_A => [0xCB, 0xE7]
  | .SET_5_B => [0xCB, 0xE8]
  | .SET_5_C => [0xCB, 0xE9]
  | .SET_5_D => [0xCB, 0xEA]
  | .SET_5_E => [0xCB, 0xEB]
  | .SET_5_H => [0xCB, 0xEC]
  | .SET_5_L => [0xCB, 0xED]
  | .SET_5__HL => [0xCB, 0xEE]
  | .SET_5_A => [0xCB, 0xEF]
  | .SET_6_B => [0xCB, 0xF0]
  | .SET_6_C => [0xCB, 0xF1]
  | .SET_6_D => [0xCB, 0xF2]
  | .SET_6_E => [0xCB, 0xF3]
  | .SET_6_H => [0xCB, 0xF4]
  | .SET_6_L => [0xCB, 0xF5]
  | .SET_6__HL => [0xCB, 0xF6]
  | .SET_6_A => [0xCB, 0xF7]
  | .SET_7_B => [0xCB, 0xF8]
  | .SET_7_C => [0xCB, 0xF9]
  | .SET_7_D => [0xCB, 0xFA]
  | .SET_7_E => [0xCB, 0xFB]
  | .SET_7_H => [0xCB, 0xFC]
  | .SET_7_L => [0xCB, 0xFD]
  | .SET_7__HL => [0xCB, 0xFE]
  | .SET_7_A => [0xCB, 0xFF]

/-! ## The opcode table's numbering -/

/-- The three bytes at and after an instruction's lowest address, for a table word `w` of `nbits` bits (assumption 4).
R122 writes a CB row as `byte0 * 256 + byte1`, so in a 16-bit word whose high half is `0xCB` the first byte is the high
half; every other word has its first byte in bits 7..0. -/
def tableBytes (nbits w : Nat) : Byte × Byte × Byte :=
  if nbits = 16 ∧ w / 256 % 256 = 0xCB then (0xCB, BitVec.ofNat 8 w, 0)
  else (BitVec.ofNat 8 w, BitVec.ofNat 8 (w / 256), BitVec.ofNat 8 (w / 65536))

/-- The instruction the decoder reads from a table word. -/
def decodeTableWord (nbits w : Nat) : Option Instr :=
  match tableBytes nbits w with
  | (b0, b1, b2) =>
    match decode [b0, b1, b2] with
    | .ok (i, _) => some i
    | .error _ => none

end Sys2Proof
end

