-- ==== Sys2Proof/Machine/Flags.lean ====
section
/-! DEFINITION. Machine/Flags.lean: the flag register's layout (R22) and every ALU function of R221 to R237, R260, R263
and R271 to R286 as a pure function of (flags, operands). Sums and differences are computed exactly on natural numbers
and narrowed at the end. -/

namespace Sys2Proof.Machine

/-! ## The flag register (R22) -/

/-- R22: the flag byte with `Z` in bit 7, `N` in bit 6, `H` in bit 5, `C` in bit 4 and zeros below. -/
def packF (z n h c : Bool) : Byte :=
  BitVec.ofBool z ++ BitVec.ofBool n ++ BitVec.ofBool h ++ BitVec.ofBool c ++ (0 : BitVec 4)

/-- R22: bit 7. -/
def flagZ (f : Byte) : Bool := f.getLsbD 7
/-- R22: bit 6. -/
def flagN (f : Byte) : Bool := f.getLsbD 6
/-- R22: bit 5. -/
def flagH (f : Byte) : Bool := f.getLsbD 5
/-- R22: bit 4. -/
def flagC (f : Byte) : Bool := f.getLsbD 4

/-- R23: what a write of `v` to F stores. -/
def maskF (v : Byte) : Byte := v &&& 0xF0

/-- The result of an ALU function: the 8-bit value and the new flag byte. -/
structure AluOut where
  val : Byte
  f : Byte
  deriving DecidableEq, Repr

/-! ## 8-bit arithmetic and logic (R221 to R228) -/

/-- R221. -/
def aluAdd (a v : Byte) : AluOut :=
  let s := a.toNat + v.toNat
  { val := BitVec.ofNat 8 s
    f := packF (s % 256 == 0) false (decide (a.toNat % 16 + v.toNat % 16 > 0x0F)) (decide (s > 0xFF)) }

/-- R222; `c` is the carry before. -/
def aluAdc (c : Bool) (a v : Byte) : AluOut :=
  let s := a.toNat + v.toNat + c.toNat
  { val := BitVec.ofNat 8 s
    f := packF (s % 256 == 0) false (decide (a.toNat % 16 + v.toNat % 16 + c.toNat > 0x0F)) (decide (s > 0xFF)) }

/-- R223: the difference is taken modulo 256 by adding 256 first. -/
def aluSub (a v : Byte) : AluOut :=
  let d := a.toNat + 256 - v.toNat
  { val := BitVec.ofNat 8 d
    f := packF (d % 256 == 0) true (decide (a.toNat % 16 < v.toNat % 16)) (decide (a.toNat < v.toNat)) }

/-- R224; `c` is the carry (borrow) before. The nibbles are compared as integers 0..16. -/
def aluSbc (c : Bool) (a v : Byte) : AluOut :=
  let d := a.toNat + 512 - v.toNat - c.toNat
  { val := BitVec.ofNat 8 d
    f := packF (d % 256 == 0) true (decide (a.toNat % 16 < v.toNat % 16 + c.toNat))
      (decide (a.toNat < v.toNat + c.toNat)) }

/-- R225. -/
def aluAnd (a v : Byte) : AluOut := { val := a &&& v, f := packF (a &&& v == 0) false true false }

/-- R226. -/
def aluXor (a v : Byte) : AluOut := { val := a ^^^ v, f := packF (a ^^^ v == 0) false false false }

/-- R227. -/
def aluOr (a v : Byte) : AluOut := { val := a ||| v, f := packF (a ||| v == 0) false false false }

/-- R228: flags as SUB, A unchanged. -/
def aluCp (a v : Byte) : AluOut := { val := a, f := (aluSub a v).f }

/-- R108, R220: the operation a field selects, on A and the operand `v`, with the flags `f` before. -/
def alu (op : AluOp) (f a v : Byte) : AluOut :=
  match op with
  | .add => aluAdd a v
  | .adc => aluAdc (flagC f) a v
  | .sub => aluSub a v
  | .sbc => aluSbc (flagC f) a v
  | .and => aluAnd a v
  | .xor => aluXor a v
  | .or => aluOr a v
  | .cp => aluCp a v

/-- R229, R230: increment; C is kept. -/
def aluInc (f v : Byte) : AluOut :=
  { val := v + 1, f := packF (v + 1 == 0) false (v.toNat % 16 == 0xF) (flagC f) }

/-- R231, R232: decrement; C is kept. -/
def aluDec (f v : Byte) : AluOut :=
  { val := v - 1, f := packF (v - 1 == 0) true (v.toNat % 16 == 0) (flagC f) }

/-- R233: the correction DAA adds (N = 0) or subtracts (N = 1). -/
def daaCorrection (f a : Byte) : Byte :=
  if flagN f then
    (if flagH f then 0x06 else 0) ||| (if flagC f then 0x60 else 0)
  else
    (if flagH f ∨ a.toNat % 16 > 9 then 0x06 else 0) ||| (if flagC f ∨ a.toNat > 0x99 then 0x60 else 0)

/-- R233: the carry DAA leaves. -/
def daaCarry (f a : Byte) : Bool :=
  if flagN f then flagC f else flagC f || decide (a.toNat > 0x99)

/-- R233. -/
def aluDaa (f a : Byte) : AluOut :=
  let r := if flagN f then a - daaCorrection f a else a + daaCorrection f a
  { val := r, f := packF (r == 0) (flagN f) false (daaCarry f a) }

/-- R234. -/
def aluCpl (f a : Byte) : AluOut := { val := a ^^^ 0xFF, f := packF (flagZ f) true true (flagC f) }

/-- R235: the flags after SCF. -/
def scfF (f : Byte) : Byte := packF (flagZ f) false false true

/-- R236: the flags after CCF. -/
def ccfF (f : Byte) : Byte := packF (flagZ f) false false (!flagC f)

/-! ## Rotates, shifts and bits (R271 to R286) -/

/-- A shift or rotate's result with `c` the bit that left the byte: Z from the result, N and H clear. -/
def shiftOut (r : Byte) (c : Bool) : AluOut := { val := r, f := packF (r == 0) false false c }

/-- The byte whose only bit that can be set is bit 0, or bit 7. -/
def bit0 (b : Bool) : Byte := if b then 0x01 else 0
/-- See `bit0`. -/
def bit7 (b : Bool) : Byte := if b then 0x80 else 0

/-- R276 to R283. -/
def rot (op : RotOp) (f v : Byte) : AluOut :=
  match op with
  | .rlc => shiftOut ((v <<< 1) ||| bit0 (v.getLsbD 7)) (v.getLsbD 7)
  | .rrc => shiftOut ((v >>> 1) ||| bit7 (v.getLsbD 0)) (v.getLsbD 0)
  | .rl => shiftOut ((v <<< 1) ||| bit0 (flagC f)) (v.getLsbD 7)
  | .rr => shiftOut ((v >>> 1) ||| bit7 (flagC f)) (v.getLsbD 0)
  | .sla => shiftOut (v <<< 1) (v.getLsbD 7)
  | .sra => shiftOut ((v >>> 1) ||| (v &&& 0x80)) (v.getLsbD 0)
  | .swap => shiftOut ((v <<< 4) ||| (v >>> 4)) false
  | .srl => shiftOut (v >>> 1) (v.getLsbD 0)

/-- R141 `ClearZ`. -/
def clearZ (f : Byte) : Byte := packF false (flagN f) (flagH f) (flagC f)

/-- R270 to R274: the accumulator rotates are RLC, RRC, RL, RR on A with Z cleared. -/
def accRot (op : RotOp) (f a : Byte) : AluOut := { val := (rot op f a).val, f := clearZ (rot op f a).f }

/-- R284: the flags after BIT b. -/
def bitF (b : Fin 8) (f v : Byte) : Byte := packF (!v.getLsbD b.val) false true (flagC f)

/-- R285. -/
def resBit (b : Fin 8) (v : Byte) : Byte := v &&& ~~~((1 : Byte) <<< b.val)

/-- R286. -/
def setBit (b : Fin 8) (v : Byte) : Byte := v ||| ((1 : Byte) <<< b.val)

/-! ## 16-bit arithmetic (R260, R263, R204) -/

/-- R10 `sext_16`. -/
def sext16 (e : Byte) : Word := e.signExtend 16

/-- R10 `zext_16`. -/
def zext16 (e : Byte) : Word := e.zeroExtend 16

/-- R260: the flags after ADD HL,rr; Z is kept. -/
def addHLF (f : Byte) (hl v : Word) : Byte :=
  packF (flagZ f) false (decide (hl.toNat % 0x1000 + v.toNat % 0x1000 > 0x0FFF)) (decide (hl.toNat + v.toNat > 0xFFFF))

/-- R204, R263: the flags of SP plus a signed displacement, from the unsigned sum of SP's low byte and the operand byte. -/
def addSPF (sp : Word) (e : Byte) : Byte :=
  packF false false (decide (sp.toNat % 16 + e.toNat % 16 > 0x0F)) (decide (sp.toNat % 256 + e.toNat > 0xFF))

end Sys2Proof.Machine
end

