-- ==== Sys2Proof/Machine/State.lean ====
section
/-! DEFINITION. Machine/State.lean: all the state the spec gives the machine (R20 to R39, R72, R73, R75, R155), as plain data,
and its values after reset (R45, R46). INVENTORY.md lists the same state with the rules that name it. -/

namespace Sys2Proof.Machine

/-- R20, R24, R27: the general registers, the flag register, SP and pc. The pairs of R21 are computed from these. -/
structure Regs where
  a : Byte
  f : Byte
  b : Byte
  c : Byte
  d : Byte
  e : Byte
  h : Byte
  l : Byte
  sp : Word
  pc : Word
  deriving DecidableEq, Repr

/-- R36: the value of an armed delay counter. -/
inductive Delay where
  | one
  | zero
  deriving DecidableEq, Repr

/-- R29, R36, R350 to R352: the interrupt controller. `ifr` holds bits 4..0 of IF; bits 7..5 are hard-wired. -/
structure IntCtl where
  ime : Bool
  ie : Byte
  ifr : BitVec 5
  pendingEnable : Option Delay
  pendingDisable : Option Delay
  deriving DecidableEq, Repr

/-- R31: the eleven values of `state`. -/
inductive Phase where
  | opcode | extOpcode | operand | running
  | irqReadIF | irqReadIE | irqPush1 | irqPush2 | irqJump
  | stopped | halted
  deriving DecidableEq, Repr

/-- R34, R119: the table entry `currentOpcode` selects, by the byte that indexes its table. -/
inductive Entry where
  | primary (op : Byte)
  | cb (op : Byte)
  deriving DecidableEq, Repr

/-- R34: the instruction latches. -/
structure Latches where
  opcode1 : Byte
  opcode2 : Byte
  current : Option Entry
  operand0 : Byte
  operand1 : Byte
  operandIndex : Nat
  opIndex : Nat
  opContext : Word
  deriving DecidableEq, Repr

/-- R353: the interrupt types, in the order of their ordinals. -/
inductive Irq where
  | vblank | lcdc | timer | serial | joypad
  deriving DecidableEq, Repr

/-- R35: the interrupt-dispatch latches. -/
structure IrqLatches where
  irqIF : Byte
  irqIE : Byte
  requested : Option Irq
  deriving DecidableEq, Repr

/-- R37: the current speed multiplier, 1 or 2. -/
inductive Speed where
  | single
  | double
  deriving DecidableEq, Repr

/-- R60, R84: memory as address and byte pairs, addresses strictly rising, no pair equal to what an unlisted address
reads as (`Memory.wf` in Machine/Ops.lean). A cell from 0x10000 on belongs to a bank of video or work RAM that R72 maps at
a lower address (`State.vramCell`, `State.wramCell`). -/
abbrev Memory := List Host.Cell

/-- R75, R377: an OAM DMA transfer in progress: the source page, and the ticks for which OAM stays blocked. -/
structure DmaTransfer where
  page : Byte
  ticksLeft : Nat
  deriving DecidableEq, Repr

/-- R72, rows 0xFF4F and 0xFF70 (CGB): the banks of video RAM and work RAM selected (assumption 25). -/
structure Banks where
  vram : BitVec 1
  wram : BitVec 3
  deriving DecidableEq, Repr

/-- R83, R155, R380: the PPU modes the spec names. -/
inductive PpuMode where
  | hBlank | vBlank | oamSearch | pixelTransfer
  deriving DecidableEq, Repr

/-- R8, R155: what the PPU shows the CPU: whether the LCD is enabled, `PpuMode` and `LineTick`. -/
structure PpuSignals where
  lcdEnabled : Bool
  mode : PpuMode
  lineTick : Nat
  deriving DecidableEq, Repr

/-- R156: the six OAM-corruption types. -/
inductive OamType where
  | incDec | pop1 | pop2 | push1 | push2 | ldHl
  deriving DecidableEq, Repr

/-- R8: what the CPU sends out beside its stores to memory: the LCD events of STOP (R334, R336), the OAM-corruption
event (R155), and a write that reaches a neighbouring block's register (R4, R381). -/
inductive Event where
  | lcdDisable
  | lcdEnable
  | oamCorrupt (t : OamType)
  | deviceWrite (addr : Word) (v : Byte)
  deriving DecidableEq, Repr

/-- The machine. `draws` is the model's own: how many free values (`Config.freeByte`) have been used (assumption 3).
`events` is the record of what was sent out, oldest first. -/
structure State where
  cfg : Config
  regs : Regs
  ic : IntCtl
  phase : Phase
  haltBug : Bool
  clockCycle : Nat
  latch : Latches
  irq : IrqLatches
  speed : Speed
  prepareSwitch : Bool
  mem : Memory
  bootRom : Memory
  bootMapped : Bool
  banks : Banks
  dma : Option DmaTransfer
  ppu : PpuSignals
  events : List Event
  draws : Nat
  deriving DecidableEq, Repr

/-- Why the machine stops. -/
inductive Fault where
  /-- R157, R337: the opcode byte fetched is one of the eleven undefined ones; `pc` is the value reported with it (already
  past the byte, or at it on a halt-bug fetch). Raised by the meaning of `UNDEFINED` and by the engine's opcode fetch.
  Safe: the spec calls it a fault that is never final. -/
  | undefinedOpcode (op : Byte) (pc : Word)
  deriving DecidableEq, Repr

/-- Why the model gives no next state. -/
inductive Refusal where
  /-- An instruction that has no meaning yet. No arm of `exec` raises it. Safe. -/
  | notModelled (mnemonic : String)
  deriving DecidableEq, Repr

/-- R34, R45: the instruction latches, cleared. -/
def Latches.clear : Latches :=
  { opcode1 := 0, opcode2 := 0, current := none, operand0 := 0, operand1 := 0, operandIndex := 0, opIndex := 0,
    opContext := 0 }

/-- R35, R45: the dispatch latches, cleared. -/
def IrqLatches.clear : IrqLatches := { irqIF := 0, irqIE := 0, requested := none }

/-- R45, R400: the state after power-on of the machine `cfg`. The spec leaves `A F B C D E H L SP` and memory open;
assumption 1 names zero for the registers and assumption 5 what unlisted memory reads as. The PPU's signals are those of
assumption 6. That no OAM DMA is in progress is assumption 24; the banks selected are assumption 25's. -/
def State.powerOn (cfg : Config) : State :=
  { cfg := cfg
    regs := { a := 0, f := 0, b := 0, c := 0, d := 0, e := 0, h := 0, l := 0, sp := 0, pc := 0x0000 }
    ic := { ime := false, ie := 0x00, ifr := 0, pendingEnable := none, pendingDisable := none }
    phase := .opcode
    haltBug := false
    clockCycle := 0
    latch := Latches.clear
    irq := IrqLatches.clear
    speed := .single
    prepareSwitch := false
    mem := []
    bootRom := []
    bootMapped := true
    banks := { vram := 0, wram := 0 }
    dma := none
    ppu := { lcdEnabled := false, mode := .hBlank, lineTick := 0 }
    events := []
    draws := 0 }

/-- R46: the registers the DMG boot ROM leaves. -/
def Regs.postBootDmg : Regs :=
  { a := 0x01, f := 0xB0, b := 0x00, c := 0x13, d := 0x00, e := 0xD8, h := 0x01, l := 0x4D, sp := 0xFFFE, pc := 0x0100 }

/-- R46, U18: on CGB only `A`, `SP` and `pc` are certain; the other registers are free values (`F[3:0] = 0`). -/
def Regs.postBootCgb : Regs :=
  { a := 0x11, f := Config.freeByte 0 &&& 0xF0, b := Config.freeByte 1, c := Config.freeByte 2, d := Config.freeByte 3,
    e := Config.freeByte 4, h := Config.freeByte 5, l := Config.freeByte 6, sp := 0xFFFE, pc := 0x0100 }

/-- R46, R403: the state at the cartridge entry point when the boot ROM is skipped. -/
def State.postBoot (cfg : Config) : State :=
  { State.powerOn cfg with
    regs := if cfg.gbc then Regs.postBootCgb else Regs.postBootDmg
    bootMapped := false
    draws := if cfg.gbc then 7 else 0 }

/-- R403: the state a run of the machine `cfg` starts from. -/
def State.initial (cfg : Config) : State :=
  match cfg.launch with
  | .powerOn => State.powerOn cfg
  | .postBoot => State.postBoot cfg

/-- The machine right after reset: `Config.default` is a DMG that starts at power-on (assumption 2). -/
def State.reset : State := State.initial Config.default

end Sys2Proof.Machine
end

