-- ==== Sys2Proof/Machine/Ops.lean ====
section
/-! DEFINITION. Machine/Ops.lean: the shared operations. Memory in canonical form; the bus and its address map (R60 to
R77, R84); the registers (R20 to R27); the interrupt controller (R350 to R372); the OAM-corruption trigger (R155, R156);
the stack (R66, R67); fetching an instruction's bytes (R135 to R137); taking an interrupt (R361 to R366) and returning
from one (R310, R369). -/

namespace Sys2Proof.Machine

/-- What a meaning and a step answer. -/
abbrev Result := Host.Outcome State Fault Refusal

/-! ## Memory as a canonical list of cells -/

/-- What an address that no cell lists reads as (assumption 5). -/
def Memory.unlisted (_a : Nat) : Byte := 0x00

/-- One byte of memory. -/
def Memory.read (m : Memory) (a : Nat) : Byte :=
  match m with
  | [] => Memory.unlisted a
  | (k, v) :: rest => if k = a then v else Memory.read rest a

/-- Store one byte, keeping the canonical form: a byte equal to what an unlisted address reads as is not listed. -/
def Memory.write (m : Memory) (a : Nat) (v : Byte) : Memory :=
  match m with
  | [] => if v = Memory.unlisted a then [] else [(a, v)]
  | (k, w) :: rest =>
    if k < a then (k, w) :: Memory.write rest a v
    else if k = a then (if v = Memory.unlisted a then rest else (a, v) :: rest)
    else (if v = Memory.unlisted a then (k, w) :: rest else (a, v) :: (k, w) :: rest)

/-- Every address listed is at least `lo`, addresses rise strictly, and no cell holds what an unlisted address reads as. -/
def Memory.wfFrom (lo : Nat) (m : Memory) : Bool :=
  match m with
  | [] => true
  | (k, v) :: rest => decide (lo ≤ k) && decide (v ≠ Memory.unlisted k) && Memory.wfFrom (k + 1) rest

/-- The canonical form. -/
def Memory.wf (m : Memory) : Bool := Memory.wfFrom 0 m

/-! ## Registers (R10, R20 to R27) -/

/-- R10: read an 8-bit register. -/
def State.r8 (s : State) (r : Reg8) : Byte :=
  match r with
  | .B => s.regs.b
  | .C => s.regs.c
  | .D => s.regs.d
  | .E => s.regs.e
  | .H => s.regs.h
  | .L => s.regs.l
  | .A => s.regs.a

/-- R10: write an 8-bit register. -/
def State.setR8 (s : State) (r : Reg8) (v : Byte) : State :=
  match r with
  | .B => { s with regs := { s.regs with b := v } }
  | .C => { s with regs := { s.regs with c := v } }
  | .D => { s with regs := { s.regs with d := v } }
  | .E => { s with regs := { s.regs with e := v } }
  | .H => { s with regs := { s.regs with h := v } }
  | .L => { s with regs := { s.regs with l := v } }
  | .A => { s with regs := { s.regs with a := v } }

/-- R23: write F; bits 3..0 stay 0. -/
def State.setF (s : State) (v : Byte) : State := { s with regs := { s.regs with f := maskF v } }

/-- R24. -/
def State.setSp (s : State) (v : Word) : State := { s with regs := { s.regs with sp := v } }

/-- R27. -/
def State.setPc (s : State) (v : Word) : State := { s with regs := { s.regs with pc := v } }

/-- R21: `BC = B : C`. -/
def State.bc (s : State) : Word := pairOf s.regs.b s.regs.c
/-- R21: `DE = D : E`. -/
def State.de (s : State) : Word := pairOf s.regs.d s.regs.e
/-- R21: `HL = H : L`. -/
def State.hl (s : State) : Word := pairOf s.regs.h s.regs.l
/-- R21: `AF = A : F`. -/
def State.af (s : State) : Word := pairOf s.regs.a s.regs.f

/-- R105, table `rp`: read. -/
def State.r16 (s : State) (r : Reg16) : Word :=
  match r with
  | .BC => s.bc
  | .DE => s.de
  | .HL => s.hl
  | .SP => s.regs.sp

/-- R21: write a pair; SP is a register of its own. -/
def State.setR16 (s : State) (r : Reg16) (v : Word) : State :=
  match r with
  | .BC => { s with regs := { s.regs with b := hiByte v, c := loByte v } }
  | .DE => { s with regs := { s.regs with d := hiByte v, e := loByte v } }
  | .HL => { s with regs := { s.regs with h := hiByte v, l := loByte v } }
  | .SP => s.setSp v

/-- R105, table `rp2`: read. -/
def State.pair (s : State) (r : StackPair) : Word :=
  match r with
  | .BC => s.bc
  | .DE => s.de
  | .HL => s.hl
  | .AF => s.af

/-- R10, R23: write; `AF <- v` stores `v[7:0] & 0xF0` in F. -/
def State.setPair (s : State) (r : StackPair) (v : Word) : State :=
  match r with
  | .BC => s.setR16 .BC v
  | .DE => s.setR16 .DE v
  | .HL => s.setR16 .HL v
  | .AF => { s with regs := { s.regs with a := hiByte v, f := maskF (loByte v) } }

/-- R105: the condition holds on the flags. -/
def State.cond (s : State) (cc : Cond) : Bool :=
  match cc with
  | .NZ => !flagZ s.regs.f
  | .Z => flagZ s.regs.f
  | .NC => !flagC s.regs.f
  | .C => flagC s.regs.f

/-! ## The interrupt controller (R350 to R356, R360, R372) -/

/-- R353: the bit of IE and IF that belongs to a type. -/
def Irq.ordinal : Irq → Nat
  | .vblank => 0
  | .lcdc => 1
  | .timer => 2
  | .serial => 3
  | .joypad => 4

/-- R353: the handler addresses. -/
def Irq.handler : Irq → Word
  | .vblank => 0x0040
  | .lcdc => 0x0048
  | .timer => 0x0050
  | .serial => 0x0058
  | .joypad => 0x0060

/-- R352: IF as it reads, bits 7..5 being 1. -/
def IntCtl.ifByte (c : IntCtl) : Byte := (0b111 : BitVec 3) ++ c.ifr

/-- R360: at least one interrupt is both pending and enabled. -/
def IntCtl.requested (c : IntCtl) : Bool := decide (c.ifByte &&& c.ie &&& 0x1F ≠ 0)

/-- R360, R132: with IME, a request is accepted. -/
def IntCtl.accepts (c : IntCtl) : Bool := c.ime && c.requested

/-- R372. -/
def IntCtl.haltBug (c : IntCtl) : Bool := c.requested && !c.ime

/-- R359: a source sets its bit in IF. -/
def IntCtl.request (c : IntCtl) (i : Irq) : IntCtl := { c with ifr := c.ifr ||| ((1 : BitVec 5) <<< i.ordinal) }

/-- R362: dispatch clears the bit of the interrupt it takes. -/
def IntCtl.acknowledge (c : IntCtl) (i : Irq) : IntCtl := { c with ifr := c.ifr &&& ~~~((1 : BitVec 5) <<< i.ordinal) }

/-- R354: `EnableInterrupts(delayed = 1)`. -/
def IntCtl.enableDelayed (c : IntCtl) : IntCtl :=
  { c with pendingDisable := none, pendingEnable := match c.pendingEnable with | none => some .one | some d => some d }

/-- R355: `EnableInterrupts(delayed = 0)`. -/
def IntCtl.enableNow (c : IntCtl) : IntCtl := { c with pendingEnable := none, pendingDisable := none, ime := true }

/-- R355: `DisableInterrupts(delayed = 0)`. -/
def IntCtl.disableNow (c : IntCtl) : IntCtl := { c with pendingEnable := none, pendingDisable := none, ime := false }

/-- R355: `DisableInterrupts(delayed = 1)`; `late` is `Gbc and DiDelayCgb`. -/
def IntCtl.disableDelayed (c : IntCtl) (late : Bool) : IntCtl :=
  if late then
    { c with pendingEnable := none, pendingDisable := match c.pendingDisable with | none => some .one | some d => some d }
  else { c with pendingEnable := none, pendingDisable := none, ime := false }

/-- R356, first half. -/
def IntCtl.stepEnable (c : IntCtl) : IntCtl :=
  match c.pendingEnable with
  | none => c
  | some .zero => c.enableNow
  | some .one => { c with pendingEnable := some .zero }

/-- R356, second half. -/
def IntCtl.stepDisable (c : IntCtl) : IntCtl :=
  match c.pendingDisable with
  | none => c
  | some .zero => c.disableNow
  | some .one => { c with pendingDisable := some .zero }

/-- R356: `InstructionFinished()`. -/
def IntCtl.instructionFinished (c : IntCtl) : IntCtl := c.stepEnable.stepDisable

/-- R356 on the machine. -/
def State.instructionFinished (s : State) : State := { s with ic := s.ic.instructionFinished }

/-- The end of an instruction that ends through its micro-op list (R139). -/
def done (s : State) : Result := .next s.instructionFinished

/-! ## The bus (R60 to R77) -/

/-- R8: send an event out. -/
def State.emit (s : State) (e : Event) : State := { s with events := s.events ++ [e] }

/-- R37: `Speed` as a number. -/
def Speed.multiplier : Speed → Nat
  | .single => 1
  | .double => 2

/-- What answers a bus address. -/
inductive Place where
  /-- A cell that reads back what was stored. -/
  | ram (cell : Nat)
  /-- A cell whose writes are ignored (U7). -/
  | rom (cell : Nat)
  /-- A byte of the boot ROM overlay (R73). -/
  | boot (cell : Nat)
  /-- R352. -/
  | ifReg
  /-- R351. -/
  | ieReg
  /-- R29, R334. -/
  | key1
  /-- R73: any write unmaps the boot ROM. -/
  | bootOff
  /-- R75: a write starts an OAM DMA. -/
  | dmaPage
  /-- R72: selects the bank of video RAM (CGB). -/
  | vramBank
  /-- R72: selects the bank of work RAM (CGB). -/
  | wramBank
  /-- A register of a neighbouring block (R4, R381): a read gives a free value, a write is sent out (assumption 7). -/
  | device
  /-- R68: reads 0xFF, ignores writes. -/
  | void
  deriving DecidableEq, Repr

/-- R72, rows 0xFF00 to 0xFF7F. A CGB-only register is void on DMG; an address in no row is void. -/
def ioPlace (gbc : Bool) (n : Nat) : Place :=
  if n = 0xFF0F then .ifReg
  else if n = 0xFF46 then .dmaPage
  else if n = 0xFF50 then .bootOff
  else if n = 0xFF4D then (if gbc then .key1 else .void)
  else if n = 0xFF4F then (if gbc then .vramBank else .void)
  else if n = 0xFF70 then (if gbc then .wramBank else .void)
  else if n ≤ 0xFF02 ∨ (0xFF04 ≤ n ∧ n ≤ 0xFF07) ∨ (0xFF10 ≤ n ∧ n ≤ 0xFF4B ) then .device
  else if (0xFF51 ≤ n ∧ n ≤ 0xFF55) ∨ (0xFF68 ≤ n ∧ n ≤ 0xFF6B) then (if gbc then .device else .void)
  else .void

/-- R73: the boot ROM overlays this address while it is mapped. -/
def bootCovers (gbc : Bool) (n : Nat) : Bool := decide (n < 0x100) || (gbc && decide (0x200 ≤ n) && decide (n < 0x900))

/-- R72, row 0x8000–0x9FFF: the cell of an address of video RAM in the bank selected (assumption 25). -/
def State.vramCell (s : State) (n : Nat) : Nat :=
  if s.cfg.gbc && s.banks.vram == 1 then 0x10000 + (n - 0x8000) else n

/-- R72, row 0xC000–0xDFFF: the cell of an address of work RAM. On CGB 0xD000–0xDFFF is banked: bank 1 for the values 0
and 1, else the bank of that number (assumption 25). -/
def State.wramCell (s : State) (n : Nat) : Nat :=
  if s.cfg.gbc && decide (0xD000 ≤ n) && decide (2 ≤ s.banks.wram.toNat) then
    0x12000 + (s.banks.wram.toNat - 2) * 0x1000 + (n - 0xD000)
  else n

/-- R71, R72, R73, R75: the Game Boy's map. While an OAM DMA is in progress OAM is void (R75). -/
def State.gameBoyPlace (s : State) (n : Nat) : Place :=
  if n < 0x8000 then (if s.bootMapped && bootCovers s.cfg.gbc n then .boot n else .rom n)
  else if n < 0xA000 then .ram (s.vramCell n)
  else if n < 0xC000 then (if s.cfg.cartRam then .ram n else .void)
  else if n < 0xE000 then .ram (s.wramCell n)
  else if n < 0xFE00 then .ram (s.wramCell (n - 0x2000))
  else if n < 0xFEA0 then (if s.dma.isSome then .void else .ram n)
  else if n < 0xFF00 then .void
  else if n < 0xFF80 then ioPlace s.cfg.gbc n
  else if n < 0xFFFF then .ram n
  else .ieReg

/-- R84: FlatBus, with IF, IE and, on CGB, KEY1. -/
def State.flatPlace (s : State) (n : Nat) : Place :=
  if n = 0xFF0F then .ifReg
  else if n = 0xFFFF then .ieReg
  else if n = 0xFF4D ∧ s.cfg.gbc = true then .key1
  else .ram n

/-- R68: which region answers address `a`. -/
def State.place (s : State) (a : Word) : Place :=
  match s.cfg.bus with
  | .flat => s.flatPlace a.toNat
  | .gameBoy => s.gameBoyPlace a.toNat

/-- A free value (assumption 3) and the state that has used it. -/
def State.draw (s : State) : Byte × State := (Config.freeByte s.draws, { s with draws := s.draws + 1 })

/-- R334, U17: KEY1 on CGB: bit 7 the speed, bit 0 the prepare switch, bits 6..1 free. -/
def State.key1Byte (s : State) (free : Byte) : Byte :=
  (match s.speed with | .single => 0x00 | .double => 0x80) ||| (free &&& 0x7E) ||| (if s.prepareSwitch then 0x01 else 0x00)

/-- R72: the bank registers as they read: the bits that select, the others free (assumption 25). -/
def State.vramBankByte (s : State) (free : Byte) : Byte := (free &&& 0xFE) ||| s.banks.vram.zeroExtend 8

/-- See `State.vramBankByte`. -/
def State.wramBankByte (s : State) (free : Byte) : Byte := (free &&& 0xF8) ||| s.banks.wram.zeroExtend 8

/-- R60 `read(addr)`. Reading the boot-disable register gives a free value (assumption 7). -/
def State.busRead (s : State) (a : Word) : Byte × State :=
  match s.place a with
  | .ram k => (s.mem.read k, s)
  | .rom k => (s.mem.read k, s)
  | .boot k => (s.bootRom.read k, s)
  | .ifReg => (s.ic.ifByte, s)
  | .ieReg => (s.ic.ie, s)
  | .key1 => (s.key1Byte s.draw.1, s.draw.2)
  | .bootOff => s.draw
  | .dmaPage => s.draw
  | .vramBank => (s.vramBankByte s.draw.1, s.draw.2)
  | .wramBank => (s.wramBankByte s.draw.1, s.draw.2)
  | .device => s.draw
  | .void => (0xFF, s)

/-- R75, R377: a write of the source page begins a transfer that blocks OAM for `648 / Speed` ticks. -/
def State.startDma (s : State) (page : Byte) : State :=
  { s with dma := some { page := page, ticksLeft := 648 / s.speed.multiplier } }

/-- R60 `write(addr, v)`. -/
def State.busWrite (s : State) (a : Word) (v : Byte) : State :=
  match s.place a with
  | .ram k => { s with mem := s.mem.write k v }
  | .rom _ => s
  | .boot _ => s
  | .ifReg => { s with ic := { s.ic with ifr := v.extractLsb' 0 5 } }
  | .ieReg => { s with ic := { s.ic with ie := v } }
  | .key1 => { s with prepareSwitch := v.getLsbD 0 }
  | .bootOff => { s with bootMapped := false }
  | .dmaPage => (s.startDma v).emit (.deviceWrite a v)
  | .vramBank => State.emit { s with banks := { s.banks with vram := v.extractLsb' 0 1 } } (.deviceWrite a v)
  | .wramBank => State.emit { s with banks := { s.banks with wram := v.extractLsb' 0 3 } } (.deviceWrite a v)
  | .device => s.emit (.deviceWrite a v)
  | .void => s

/-- The memory cell a store to `a` lands in; none where it lands in no cell. -/
def State.storeCell (s : State) (a : Word) : Option Nat :=
  match s.place a with
  | .ram k => some k
  | _ => none

/-! ## OAM DMA (R75, R377) -/

/-- R377: the source byte of a transfer, read as the CPU would read it: addresses from 0xE000 are read 0x2000 lower. -/
def State.dmaSource (s : State) (n : Nat) : Byte :=
  (s.busRead (BitVec.ofNat 16 (if 0xE000 ≤ n then n - 0x2000 else n))).1

/-- The first `k` bytes of OAM copied from `base`. -/
def State.dmaCopy (s : State) (base : Nat) (k : Nat) : State :=
  match k with
  | 0 => s
  | k + 1 =>
    let t := s.dmaCopy base k
    { t with mem := t.mem.write (0xFE00 + k) (s.dmaSource (base + k)) }

/-- R377: `ticks` ticks of the DMA agent; when the window closes all 160 bytes are copied at once. -/
def State.dmaAdvance (s : State) (ticks : Nat) : State :=
  match s.dma with
  | none => s
  | some d =>
    if d.ticksLeft ≤ ticks then State.dmaCopy { s with dma := none } (d.page.toNat * 0x100) 160
    else { s with dma := some { d with ticksLeft := d.ticksLeft - ticks } }

/-! ## The OAM-corruption trigger (R155, R156) -/

/-- D14, U4: the first `k` bytes of OAM become free values. -/
def State.oamFree (s : State) (k : Nat) : State :=
  match k with
  | 0 => s
  | k + 1 =>
    let t := s.oamFree k
    { t with mem := t.mem.write (0xFE00 + k) (Config.freeByte t.draws), draws := t.draws + 1 }

/-- R155: the LCD is enabled and the PPU searches OAM before line tick 80. -/
def State.oamWindow (s : State) : Bool :=
  s.cfg.oamBugEnabled && s.ppu.lcdEnabled && decide (s.ppu.mode = .oamSearch) && decide (s.ppu.lineTick < 80)

/-- R156: the range the register is tested against. -/
def inOamPage (v : Word) : Bool := decide (0xFE00 ≤ v.toNat) && decide (v.toNat ≤ 0xFEFF)

/-- R155 and the test of R156: `OamCheck(t)` on the register value `v`. FlatBus holds no OAM, so there only the event is
sent (R84). OAM is replaced at once (assumption 18), before the access of the same step and before the DMA's turn in the tick:
when is the model's choice (assumption 26). -/
def State.oamCheck (s : State) (t : OamType) (v : Word) : State :=
  if inOamPage v && s.oamWindow then
    match s.cfg.bus with
    | .flat => s.emit (.oamCorrupt t)
    | .gameBoy => (s.emit (.oamCorrupt t)).oamFree 160
  else s

/-! ## The stack (R66, R67) -/

/-- R66, R205: one byte of a push. -/
def State.pushByte (s : State) (t : OamType) (v : Byte) : State :=
  let s1 := s.oamCheck t s.regs.sp
  let s2 := s1.setSp (s1.regs.sp - 1)
  s2.busWrite s2.regs.sp v

/-- R66: high byte first, at the higher address. -/
def State.push16 (s : State) (v : Word) : State := (s.pushByte .push1 (hiByte v)).pushByte .push2 (loByte v)

/-- R67, R206: one byte of a pop. -/
def State.popByte (s : State) (t : OamType) : Byte × State :=
  let s1 := s.oamCheck t s.regs.sp
  let rd := s1.busRead s1.regs.sp
  (rd.1, rd.2.setSp (rd.2.regs.sp + 1))

/-- R67: low byte first, from the lower address. -/
def State.pop16 (s : State) : Word × State :=
  let rd1 := s.popByte .pop1
  let rd2 := rd1.2.popByte .pop2
  (pairOf rd2.1 rd1.1, rd2.2)

/-! ## Fetching an instruction's bytes (R135 to R137, R151) -/

/-- R10 `fetch8`. -/
def State.fetch8 (s : State) : Byte × State :=
  let rd := s.busRead s.regs.pc
  (rd.1, rd.2.setPc (rd.2.regs.pc + 1))

/-- R135, R151: the opcode fetch; under the halt bug pc is not incremented and the flag is cleared. -/
def State.fetchOpcode (s : State) : Byte × State :=
  let rd := s.busRead s.regs.pc
  if rd.2.haltBug then (rd.1, { rd.2 with haltBug := false }) else (rd.1, rd.2.setPc (rd.2.regs.pc + 1))

/-- The bytes of one instruction, unread ones 0, and the state after their fetch. -/
structure Fetched where
  b0 : Byte
  b1 : Byte
  b2 : Byte
  st : State
  deriving DecidableEq, Repr

/-- R135 to R137: the opcode byte, then as many bytes as R103 gives it, in address order. -/
def State.fetch (s : State) : Fetched :=
  let rd1 := s.fetchOpcode
  match bytesAfter rd1.1 with
  | 0 => { b0 := rd1.1, b1 := 0, b2 := 0, st := rd1.2 }
  | 1 =>
    let rd2 := rd1.2.fetch8
    { b0 := rd1.1, b1 := rd2.1, b2 := 0, st := rd2.2 }
  | _ =>
    let rd2 := rd1.2.fetch8
    let rd3 := rd2.2.fetch8
    { b0 := rd1.1, b1 := rd2.1, b2 := rd3.1, st := rd3.2 }

/-! ## Taking an interrupt (R361 to R366) and returning from one (R310) -/

/-- R361. -/
def irqReadIF (s : State) : State :=
  let rd := s.busRead 0xFF0F
  { rd.2 with irq := { rd.2.irq with irqIF := rd.1 }, phase := .irqReadIE }

/-- R362, R367: the least ordinal whose bit is set in both bytes. -/
def selectIrq (irqIF irqIE : Byte) : Option Irq :=
  let m := irqIF &&& irqIE
  if m.getLsbD 0 then some .vblank
  else if m.getLsbD 1 then some .lcdc
  else if m.getLsbD 2 then some .timer
  else if m.getLsbD 3 then some .serial
  else if m.getLsbD 4 then some .joypad
  else none

/-- R362. -/
def irqReadIE (s : State) : State :=
  let rd := s.busRead 0xFFFF
  match selectIrq rd.2.irq.irqIF rd.1 with
  | none => { rd.2 with irq := { rd.2.irq with irqIE := rd.1, requested := none }, phase := .opcode }
  | some i =>
    { rd.2 with
      irq := { rd.2.irq with irqIE := rd.1, requested := some i }
      ic := (rd.2.ic.acknowledge i).disableNow
      phase := .irqPush1 }

/-- R363. -/
def irqPush1 (s : State) : State :=
  let s1 := s.pushByte .push1 (hiByte s.regs.pc)
  { s1 with phase := .irqPush2 }

/-- R364. -/
def irqPush2 (s : State) : State :=
  let s1 := s.pushByte .push2 (loByte s.regs.pc)
  { s1 with phase := .irqJump }

/-- R365. -/
def irqJump (s : State) : State :=
  match s.irq.requested with
  | none => { s with phase := .opcode }
  | some i => { (s.setPc i.handler) with irq := { s.irq with requested := none }, phase := .opcode }

/-- R131 step 1, R336: an accepted interrupt leaves `Stopped` with `LcdEnable`. -/
def acceptInterrupt (s : State) : State :=
  if s.phase = .stopped then
    { (s.emit .lcdEnable) with ppu := { s.ppu with lcdEnabled := true }, phase := .irqReadIF }
  else { s with phase := .irqReadIF }

/-- R361 to R366: the whole dispatch, one step of the CPU (R148). -/
def takeInterrupt (s : State) : State :=
  let s1 := irqReadIE (irqReadIF (acceptInterrupt s))
  if s1.phase = .opcode then s1 else irqJump (irqPush2 (irqPush1 s1))

/-- R310, R369: the interrupt controller's part of RETI, with no delay. -/
def State.returnEnable (s : State) : State := { s with ic := s.ic.enableNow }

end Sys2Proof.Machine
end

