-- ==== Sys2Proof/Machine/Operands.lean ====
section
/-! DEFINITION. Machine/Operands.lean: the operand forms of R104 and R106: a register or the byte at (HL), and the
addresses A moves to and from. -/

namespace Sys2Proof.Machine

/-- The memory operands of the 8-bit loads of A (R176 to R185). -/
inductive MemForm where
  /-- `(BC)` -/
  | atBC
  /-- `(DE)` -/
  | atDE
  /-- `(HL)` -/
  | atHL
  /-- `(a16)` -/
  | atA16 (nn : Word)
  /-- `(a8)`: page 0xFF00 (R182). -/
  | atA8 (a : Byte)
  /-- `(C)`: page 0xFF00 (R184). -/
  | atC
  deriving DecidableEq, Repr

/-- R106, R176 to R185: the address of a memory operand. -/
def State.addrOf (s : State) (m : MemForm) : Word :=
  match m with
  | .atBC => s.bc
  | .atDE => s.de
  | .atHL => s.hl
  | .atA16 nn => nn
  | .atA8 a => 0xFF00 + zext16 a
  | .atC => 0xFF00 + zext16 s.regs.c

/-- R104, R220, R275: read an 8-bit operand. -/
def State.read8 (s : State) (x : Operand8) : Byte × State :=
  match x with
  | .reg r => (s.r8 r, s)
  | .atHL => s.busRead s.hl

/-- R104, R275: write an 8-bit operand. -/
def State.write8 (s : State) (x : Operand8) (v : Byte) : State :=
  match x with
  | .reg r => s.setR8 r v
  | .atHL => s.busWrite s.hl v

/-- Write an ALU result to A and F (R220). -/
def State.setAF (s : State) (o : AluOut) : State := (s.setR8 .A o.val).setF o.f

end Sys2Proof.Machine
end

