-- ==== Sys2Proof/Machine/Alu16.lean ====
section
/-! DEFINITION. Machine/Alu16.lean: the 16-bit arithmetic instructions (R260 to R264). -/

set_option linter.style.nameCheck false

namespace Sys2Proof.Machine

/-- R260: `HL <- HL + rp[p]`. -/
def addToHL (r : Reg16) (s : State) : Result :=
  let v := s.r16 r
  done ((s.setF (addHLF s.regs.f s.hl v)).setR16 .HL (s.hl + v))

/-- R261: the check of R156 on the old value, then `rp[p] <- rp[p] + 1`. -/
def increment16 (r : Reg16) (s : State) : Result :=
  let s1 := s.oamCheck .incDec (s.r16 r)
  done (s1.setR16 r (s1.r16 r + 1))

/-- R262: the check of R156 on the old value, then `rp[p] <- rp[p] - 1`. -/
def decrement16 (r : Reg16) (s : State) : Result :=
  let s1 := s.oamCheck .incDec (s.r16 r)
  done (s1.setR16 r (s1.r16 r - 1))

/-- INC BC (R261). -/
def execINC_BC (s : State) : Result := increment16 .BC s

/-- ADD HL,BC (R260). -/
def execADD_HL_BC (s : State) : Result := addToHL .BC s

/-- DEC BC (R262). -/
def execDEC_BC (s : State) : Result := decrement16 .BC s

/-- INC DE (R261). -/
def execINC_DE (s : State) : Result := increment16 .DE s

/-- ADD HL,DE (R260). -/
def execADD_HL_DE (s : State) : Result := addToHL .DE s

/-- DEC DE (R262). -/
def execDEC_DE (s : State) : Result := decrement16 .DE s

/-- INC HL (R261). -/
def execINC_HL (s : State) : Result := increment16 .HL s

/-- ADD HL,HL (R260). -/
def execADD_HL_HL (s : State) : Result := addToHL .HL s

/-- DEC HL (R262). -/
def execDEC_HL (s : State) : Result := decrement16 .HL s

/-- INC SP (R261). -/
def execINC_SP (s : State) : Result := increment16 .SP s

/-- ADD HL,SP (R260). -/
def execADD_HL_SP (s : State) : Result := addToHL .SP s

/-- DEC SP (R262). -/
def execDEC_SP (s : State) : Result := decrement16 .SP s

/-- ADD SP,r8 (R263). -/
def execADD_SP_r8 (e : Byte) (s : State) : Result :=
  done ((s.setF (addSPF s.regs.sp e)).setSp (s.regs.sp + sext16 e))

end Sys2Proof.Machine
end

