-- ==== Sys2Proof/Machine/Alu8.lean ====
section
/-! DEFINITION. Machine/Alu8.lean: the 8-bit arithmetic and logic instructions (R220 to R237). -/

set_option linter.style.nameCheck false

namespace Sys2Proof.Machine

/-- R220 to R228: an operation on A and a register or the byte at (HL). -/
def aluOn (op : AluOp) (x : Operand8) (s : State) : Result :=
  let rd := s.read8 x
  done (rd.2.setAF (alu op rd.2.regs.f rd.2.regs.a rd.1))

/-- R220 to R228: an operation on A and d8. -/
def aluOnImm (op : AluOp) (n : Byte) (s : State) : Result := done (s.setAF (alu op s.regs.f s.regs.a n))

/-- R229, R230. -/
def increment8 (x : Operand8) (s : State) : Result :=
  let rd := s.read8 x
  let o := aluInc rd.2.regs.f rd.1
  done ((rd.2.setF o.f).write8 x o.val)

/-- R231, R232. -/
def decrement8 (x : Operand8) (s : State) : Result :=
  let rd := s.read8 x
  let o := aluDec rd.2.regs.f rd.1
  done ((rd.2.setF o.f).write8 x o.val)

/-- INC B (R229). -/
def execINC_B (s : State) : Result := increment8 (.reg .B) s

/-- DEC B (R231). -/
def execDEC_B (s : State) : Result := decrement8 (.reg .B) s

/-- INC C (R229). -/
def execINC_C (s : State) : Result := increment8 (.reg .C) s

/-- DEC C (R231). -/
def execDEC_C (s : State) : Result := decrement8 (.reg .C) s

/-- INC D (R229). -/
def execINC_D (s : State) : Result := increment8 (.reg .D) s

/-- DEC D (R231). -/
def execDEC_D (s : State) : Result := decrement8 (.reg .D) s

/-- INC E (R229). -/
def execINC_E (s : State) : Result := increment8 (.reg .E) s

/-- DEC E (R231). -/
def execDEC_E (s : State) : Result := decrement8 (.reg .E) s

/-- INC H (R229). -/
def execINC_H (s : State) : Result := increment8 (.reg .H) s

/-- DEC H (R231). -/
def execDEC_H (s : State) : Result := decrement8 (.reg .H) s

/-- DAA (R233). -/
def execDAA (s : State) : Result := done (s.setAF (aluDaa s.regs.f s.regs.a))

/-- INC L (R229). -/
def execINC_L (s : State) : Result := increment8 (.reg .L) s

/-- DEC L (R231). -/
def execDEC_L (s : State) : Result := decrement8 (.reg .L) s

/-- CPL (R234). -/
def execCPL (s : State) : Result := done (s.setAF (aluCpl s.regs.f s.regs.a))

/-- INC (HL) (R230). -/
def execINC__HL (s : State) : Result := increment8 .atHL s

/-- DEC (HL) (R232). -/
def execDEC__HL (s : State) : Result := decrement8 .atHL s

/-- SCF (R235). -/
def execSCF (s : State) : Result := done (s.setF (scfF s.regs.f))

/-- INC A (R229). -/
def execINC_A (s : State) : Result := increment8 (.reg .A) s

/-- DEC A (R231). -/
def execDEC_A (s : State) : Result := decrement8 (.reg .A) s

/-- CCF (R236). -/
def execCCF (s : State) : Result := done (s.setF (ccfF s.regs.f))

/-- ADD A,B (R221). -/
def execADD_A_B (s : State) : Result := aluOn .add (.reg .B) s

/-- ADD A,C (R221). -/
def execADD_A_C (s : State) : Result := aluOn .add (.reg .C) s

/-- ADD A,D (R221). -/
def execADD_A_D (s : State) : Result := aluOn .add (.reg .D) s

/-- ADD A,E (R221). -/
def execADD_A_E (s : State) : Result := aluOn .add (.reg .E) s

/-- ADD A,H (R221). -/
def execADD_A_H (s : State) : Result := aluOn .add (.reg .H) s

/-- ADD A,L (R221). -/
def execADD_A_L (s : State) : Result := aluOn .add (.reg .L) s

/-- ADD A,(HL) (R221). -/
def execADD_A__HL (s : State) : Result := aluOn .add .atHL s

/-- ADD A,A (R221). -/
def execADD_A_A (s : State) : Result := aluOn .add (.reg .A) s

/-- ADC A,B (R222). -/
def execADC_A_B (s : State) : Result := aluOn .adc (.reg .B) s

/-- ADC A,C (R222). -/
def execADC_A_C (s : State) : Result := aluOn .adc (.reg .C) s

/-- ADC A,D (R222). -/
def execADC_A_D (s : State) : Result := aluOn .adc (.reg .D) s

/-- ADC A,E (R222). -/
def execADC_A_E (s : State) : Result := aluOn .adc (.reg .E) s

/-- ADC A,H (R222). -/
def execADC_A_H (s : State) : Result := aluOn .adc (.reg .H) s

/-- ADC A,L (R222). -/
def execADC_A_L (s : State) : Result := aluOn .adc (.reg .L) s

/-- ADC A,(HL) (R222). -/
def execADC_A__HL (s : State) : Result := aluOn .adc .atHL s

/-- ADC A,A (R222). -/
def execADC_A_A (s : State) : Result := aluOn .adc (.reg .A) s

/-- SUB B (R223). -/
def execSUB_B (s : State) : Result := aluOn .sub (.reg .B) s

/-- SUB C (R223). -/
def execSUB_C (s : State) : Result := aluOn .sub (.reg .C) s

/-- SUB D (R223). -/
def execSUB_D (s : State) : Result := aluOn .sub (.reg .D) s

/-- SUB E (R223). -/
def execSUB_E (s : State) : Result := aluOn .sub (.reg .E) s

/-- SUB H (R223). -/
def execSUB_H (s : State) : Result := aluOn .sub (.reg .H) s

/-- SUB L (R223). -/
def execSUB_L (s : State) : Result := aluOn .sub (.reg .L) s

/-- SUB (HL) (R223). -/
def execSUB__HL (s : State) : Result := aluOn .sub .atHL s

/-- SUB A (R223). -/
def execSUB_A (s : State) : Result := aluOn .sub (.reg .A) s

/-- SBC A,B (R224). -/
def execSBC_A_B (s : State) : Result := aluOn .sbc (.reg .B) s

/-- SBC A,C (R224). -/
def execSBC_A_C (s : State) : Result := aluOn .sbc (.reg .C) s

/-- SBC A,D (R224). -/
def execSBC_A_D (s : State) : Result := aluOn .sbc (.reg .D) s

/-- SBC A,E (R224). -/
def execSBC_A_E (s : State) : Result := aluOn .sbc (.reg .E) s

/-- SBC A,H (R224). -/
def execSBC_A_H (s : State) : Result := aluOn .sbc (.reg .H) s

/-- SBC A,L (R224). -/
def execSBC_A_L (s : State) : Result := aluOn .sbc (.reg .L) s

/-- SBC A,(HL) (R224). -/
def execSBC_A__HL (s : State) : Result := aluOn .sbc .atHL s

/-- SBC A,A (R224). -/
def execSBC_A_A (s : State) : Result := aluOn .sbc (.reg .A) s

/-- AND B (R225). -/
def execAND_B (s : State) : Result := aluOn .and (.reg .B) s

/-- AND C (R225). -/
def execAND_C (s : State) : Result := aluOn .and (.reg .C) s

/-- AND D (R225). -/
def execAND_D (s : State) : Result := aluOn .and (.reg .D) s

/-- AND E (R225). -/
def execAND_E (s : State) : Result := aluOn .and (.reg .E) s

/-- AND H (R225). -/
def execAND_H (s : State) : Result := aluOn .and (.reg .H) s

/-- AND L (R225). -/
def execAND_L (s : State) : Result := aluOn .and (.reg .L) s

/-- AND (HL) (R225). -/
def execAND__HL (s : State) : Result := aluOn .and .atHL s

/-- AND A (R225). -/
def execAND_A (s : State) : Result := aluOn .and (.reg .A) s

/-- XOR B (R226). -/
def execXOR_B (s : State) : Result := aluOn .xor (.reg .B) s

/-- XOR C (R226). -/
def execXOR_C (s : State) : Result := aluOn .xor (.reg .C) s

/-- XOR D (R226). -/
def execXOR_D (s : State) : Result := aluOn .xor (.reg .D) s

/-- XOR E (R226). -/
def execXOR_E (s : State) : Result := aluOn .xor (.reg .E) s

/-- XOR H (R226). -/
def execXOR_H (s : State) : Result := aluOn .xor (.reg .H) s

/-- XOR L (R226). -/
def execXOR_L (s : State) : Result := aluOn .xor (.reg .L) s

/-- XOR (HL) (R226). -/
def execXOR__HL (s : State) : Result := aluOn .xor .atHL s

/-- XOR A (R226). -/
def execXOR_A (s : State) : Result := aluOn .xor (.reg .A) s

/-- OR B (R227). -/
def execOR_B (s : State) : Result := aluOn .or (.reg .B) s

/-- OR C (R227). -/
def execOR_C (s : State) : Result := aluOn .or (.reg .C) s

/-- OR D (R227). -/
def execOR_D (s : State) : Result := aluOn .or (.reg .D) s

/-- OR E (R227). -/
def execOR_E (s : State) : Result := aluOn .or (.reg .E) s

/-- OR H (R227). -/
def execOR_H (s : State) : Result := aluOn .or (.reg .H) s

/-- OR L (R227). -/
def execOR_L (s : State) : Result := aluOn .or (.reg .L) s

/-- OR (HL) (R227). -/
def execOR__HL (s : State) : Result := aluOn .or .atHL s

/-- OR A (R227). -/
def execOR_A (s : State) : Result := aluOn .or (.reg .A) s

/-- CP B (R228). -/
def execCP_B (s : State) : Result := aluOn .cp (.reg .B) s

/-- CP C (R228). -/
def execCP_C (s : State) : Result := aluOn .cp (.reg .C) s

/-- CP D (R228). -/
def execCP_D (s : State) : Result := aluOn .cp (.reg .D) s

/-- CP E (R228). -/
def execCP_E (s : State) : Result := aluOn .cp (.reg .E) s

/-- CP H (R228). -/
def execCP_H (s : State) : Result := aluOn .cp (.reg .H) s

/-- CP L (R228). -/
def execCP_L (s : State) : Result := aluOn .cp (.reg .L) s

/-- CP (HL) (R228). -/
def execCP__HL (s : State) : Result := aluOn .cp .atHL s

/-- CP A (R228). -/
def execCP_A (s : State) : Result := aluOn .cp (.reg .A) s

/-- ADD A,d8 (R221). -/
def execADD_A_d8 (n : Byte) (s : State) : Result := aluOnImm .add n s

/-- ADC A,d8 (R222). -/
def execADC_A_d8 (n : Byte) (s : State) : Result := aluOnImm .adc n s

/-- SUB d8 (R223). -/
def execSUB_d8 (n : Byte) (s : State) : Result := aluOnImm .sub n s

/-- SBC A,d8 (R224). -/
def execSBC_A_d8 (n : Byte) (s : State) : Result := aluOnImm .sbc n s

/-- AND d8 (R225). -/
def execAND_d8 (n : Byte) (s : State) : Result := aluOnImm .and n s

/-- XOR d8 (R226). -/
def execXOR_d8 (n : Byte) (s : State) : Result := aluOnImm .xor n s

/-- OR d8 (R227). -/
def execOR_d8 (n : Byte) (s : State) : Result := aluOnImm .or n s

/-- CP d8 (R228). -/
def execCP_d8 (n : Byte) (s : State) : Result := aluOnImm .cp n s

end Sys2Proof.Machine
end

