-- ==== Sys2Proof/Machine/Bits.lean ====
section
/-! DEFINITION. Machine/Bits.lean: BIT, RES and SET (R275, R284 to R286). -/

set_option linter.style.nameCheck false

namespace Sys2Proof.Machine

/-- R284: nothing is written back. -/
def testBit (b : Fin 8) (x : Operand8) (s : State) : Result :=
  let rd := s.read8 x
  done (rd.2.setF (bitF b rd.2.regs.f rd.1))

/-- R285: the result is always written back (R275). -/
def clearBit (b : Fin 8) (x : Operand8) (s : State) : Result :=
  let rd := s.read8 x
  done (rd.2.write8 x (resBit b rd.1))

/-- R286: the result is always written back (R275). -/
def raiseBit (b : Fin 8) (x : Operand8) (s : State) : Result :=
  let rd := s.read8 x
  done (rd.2.write8 x (setBit b rd.1))

/-- BIT 0,B (R284). -/
def execBIT_0_B (s : State) : Result := testBit 0 (.reg .B) s

/-- BIT 0,C (R284). -/
def execBIT_0_C (s : State) : Result := testBit 0 (.reg .C) s

/-- BIT 0,D (R284). -/
def execBIT_0_D (s : State) : Result := testBit 0 (.reg .D) s

/-- BIT 0,E (R284). -/
def execBIT_0_E (s : State) : Result := testBit 0 (.reg .E) s

/-- BIT 0,H (R284). -/
def execBIT_0_H (s : State) : Result := testBit 0 (.reg .H) s

/-- BIT 0,L (R284). -/
def execBIT_0_L (s : State) : Result := testBit 0 (.reg .L) s

/-- BIT 0,(HL) (R284). -/
def execBIT_0__HL (s : State) : Result := testBit 0 .atHL s

/-- BIT 0,A (R284). -/
def execBIT_0_A (s : State) : Result := testBit 0 (.reg .A) s

/-- BIT 1,B (R284). -/
def execBIT_1_B (s : State) : Result := testBit 1 (.reg .B) s

/-- BIT 1,C (R284). -/
def execBIT_1_C (s : State) : Result := testBit 1 (.reg .C) s

/-- BIT 1,D (R284). -/
def execBIT_1_D (s : State) : Result := testBit 1 (.reg .D) s

/-- BIT 1,E (R284). -/
def execBIT_1_E (s : State) : Result := testBit 1 (.reg .E) s

/-- BIT 1,H (R284). -/
def execBIT_1_H (s : State) : Result := testBit 1 (.reg .H) s

/-- BIT 1,L (R284). -/
def execBIT_1_L (s : State) : Result := testBit 1 (.reg .L) s

/-- BIT 1,(HL) (R284). -/
def execBIT_1__HL (s : State) : Result := testBit 1 .atHL s

/-- BIT 1,A (R284). -/
def execBIT_1_A (s : State) : Result := testBit 1 (.reg .A) s

/-- BIT 2,B (R284). -/
def execBIT_2_B (s : State) : Result := testBit 2 (.reg .B) s

/-- BIT 2,C (R284). -/
def execBIT_2_C (s : State) : Result := testBit 2 (.reg .C) s

/-- BIT 2,D (R284). -/
def execBIT_2_D (s : State) : Result := testBit 2 (.reg .D) s

/-- BIT 2,E (R284). -/
def execBIT_2_E (s : State) : Result := testBit 2 (.reg .E) s

/-- BIT 2,H (R284). -/
def execBIT_2_H (s : State) : Result := testBit 2 (.reg .H) s

/-- BIT 2,L (R284). -/
def execBIT_2_L (s : State) : Result := testBit 2 (.reg .L) s

/-- BIT 2,(HL) (R284). -/
def execBIT_2__HL (s : State) : Result := testBit 2 .atHL s

/-- BIT 2,A (R284). -/
def execBIT_2_A (s : State) : Result := testBit 2 (.reg .A) s

/-- BIT 3,B (R284). -/
def execBIT_3_B (s : State) : Result := testBit 3 (.reg .B) s

/-- BIT 3,C (R284). -/
def execBIT_3_C (s : State) : Result := testBit 3 (.reg .C) s

/-- BIT 3,D (R284). -/
def execBIT_3_D (s : State) : Result := testBit 3 (.reg .D) s

/-- BIT 3,E (R284). -/
def execBIT_3_E (s : State) : Result := testBit 3 (.reg .E) s

/-- BIT 3,H (R284). -/
def execBIT_3_H (s : State) : Result := testBit 3 (.reg .H) s

/-- BIT 3,L (R284). -/
def execBIT_3_L (s : State) : Result := testBit 3 (.reg .L) s

/-- BIT 3,(HL) (R284). -/
def execBIT_3__HL (s : State) : Result := testBit 3 .atHL s

/-- BIT 3,A (R284). -/
def execBIT_3_A (s : State) : Result := testBit 3 (.reg .A) s

/-- BIT 4,B (R284). -/
def execBIT_4_B (s : State) : Result := testBit 4 (.reg .B) s

/-- BIT 4,C (R284). -/
def execBIT_4_C (s : State) : Result := testBit 4 (.reg .C) s

/-- BIT 4,D (R284). -/
def execBIT_4_D (s : State) : Result := testBit 4 (.reg .D) s

/-- BIT 4,E (R284). -/
def execBIT_4_E (s : State) : Result := testBit 4 (.reg .E) s

/-- BIT 4,H (R284). -/
def execBIT_4_H (s : State) : Result := testBit 4 (.reg .H) s

/-- BIT 4,L (R284). -/
def execBIT_4_L (s : State) : Result := testBit 4 (.reg .L) s

/-- BIT 4,(HL) (R284). -/
def execBIT_4__HL (s : State) : Result := testBit 4 .atHL s

/-- BIT 4,A (R284). -/
def execBIT_4_A (s : State) : Result := testBit 4 (.reg .A) s

/-- BIT 5,B (R284). -/
def execBIT_5_B (s : State) : Result := testBit 5 (.reg .B) s

/-- BIT 5,C (R284). -/
def execBIT_5_C (s : State) : Result := testBit 5 (.reg .C) s

/-- BIT 5,D (R284). -/
def execBIT_5_D (s : State) : Result := testBit 5 (.reg .D) s

/-- BIT 5,E (R284). -/
def execBIT_5_E (s : State) : Result := testBit 5 (.reg .E) s

/-- BIT 5,H (R284). -/
def execBIT_5_H (s : State) : Result := testBit 5 (.reg .H) s

/-- BIT 5,L (R284). -/
def execBIT_5_L (s : State) : Result := testBit 5 (.reg .L) s

/-- BIT 5,(HL) (R284). -/
def execBIT_5__HL (s : State) : Result := testBit 5 .atHL s

/-- BIT 5,A (R284). -/
def execBIT_5_A (s : State) : Result := testBit 5 (.reg .A) s

/-- BIT 6,B (R284). -/
def execBIT_6_B (s : State) : Result := testBit 6 (.reg .B) s

/-- BIT 6,C (R284). -/
def execBIT_6_C (s : State) : Result := testBit 6 (.reg .C) s

/-- BIT 6,D (R284). -/
def execBIT_6_D (s : State) : Result := testBit 6 (.reg .D) s

/-- BIT 6,E (R284). -/
def execBIT_6_E (s : State) : Result := testBit 6 (.reg .E) s

/-- BIT 6,H (R284). -/
def execBIT_6_H (s : State) : Result := testBit 6 (.reg .H) s

/-- BIT 6,L (R284). -/
def execBIT_6_L (s : State) : Result := testBit 6 (.reg .L) s

/-- BIT 6,(HL) (R284). -/
def execBIT_6__HL (s : State) : Result := testBit 6 .atHL s

/-- BIT 6,A (R284). -/
def execBIT_6_A (s : State) : Result := testBit 6 (.reg .A) s

/-- BIT 7,B (R284). -/
def execBIT_7_B (s : State) : Result := testBit 7 (.reg .B) s

/-- BIT 7,C (R284). -/
def execBIT_7_C (s : State) : Result := testBit 7 (.reg .C) s

/-- BIT 7,D (R284). -/
def execBIT_7_D (s : State) : Result := testBit 7 (.reg .D) s

/-- BIT 7,E (R284). -/
def execBIT_7_E (s : State) : Result := testBit 7 (.reg .E) s

/-- BIT 7,H (R284). -/
def execBIT_7_H (s : State) : Result := testBit 7 (.reg .H) s

/-- BIT 7,L (R284). -/
def execBIT_7_L (s : State) : Result := testBit 7 (.reg .L) s

/-- BIT 7,(HL) (R284). -/
def execBIT_7__HL (s : State) : Result := testBit 7 .atHL s

/-- BIT 7,A (R284). -/
def execBIT_7_A (s : State) : Result := testBit 7 (.reg .A) s

/-- RES 0,B (R285). -/
def execRES_0_B (s : State) : Result := clearBit 0 (.reg .B) s

/-- RES 0,C (R285). -/
def execRES_0_C (s : State) : Result := clearBit 0 (.reg .C) s

/-- RES 0,D (R285). -/
def execRES_0_D (s : State) : Result := clearBit 0 (.reg .D) s

/-- RES 0,E (R285). -/
def execRES_0_E (s : State) : Result := clearBit 0 (.reg .E) s

/-- RES 0,H (R285). -/
def execRES_0_H (s : State) : Result := clearBit 0 (.reg .H) s

/-- RES 0,L (R285). -/
def execRES_0_L (s : State) : Result := clearBit 0 (.reg .L) s

/-- RES 0,(HL) (R285). -/
def execRES_0__HL (s : State) : Result := clearBit 0 .atHL s

/-- RES 0,A (R285). -/
def execRES_0_A (s : State) : Result := clearBit 0 (.reg .A) s

/-- RES 1,B (R285). -/
def execRES_1_B (s : State) : Result := clearBit 1 (.reg .B) s

/-- RES 1,C (R285). -/
def execRES_1_C (s : State) : Result := clearBit 1 (.reg .C) s

/-- RES 1,D (R285). -/
def execRES_1_D (s : State) : Result := clearBit 1 (.reg .D) s

/-- RES 1,E (R285). -/
def execRES_1_E (s : State) : Result := clearBit 1 (.reg .E) s

/-- RES 1,H (R285). -/
def execRES_1_H (s : State) : Result := clearBit 1 (.reg .H) s

/-- RES 1,L (R285). -/
def execRES_1_L (s : State) : Result := clearBit 1 (.reg .L) s

/-- RES 1,(HL) (R285). -/
def execRES_1__HL (s : State) : Result := clearBit 1 .atHL s

/-- RES 1,A (R285). -/
def execRES_1_A (s : State) : Result := clearBit 1 (.reg .A) s

/-- RES 2,B (R285). -/
def execRES_2_B (s : State) : Result := clearBit 2 (.reg .B) s

/-- RES 2,C (R285). -/
def execRES_2_C (s : State) : Result := clearBit 2 (.reg .C) s

/-- RES 2,D (R285). -/
def execRES_2_D (s : State) : Result := clearBit 2 (.reg .D) s

/-- RES 2,E (R285). -/
def execRES_2_E (s : State) : Result := clearBit 2 (.reg .E) s

/-- RES 2,H (R285). -/
def execRES_2_H (s : State) : Result := clearBit 2 (.reg .H) s

/-- RES 2,L (R285). -/
def execRES_2_L (s : State) : Result := clearBit 2 (.reg .L) s

/-- RES 2,(HL) (R285). -/
def execRES_2__HL (s : State) : Result := clearBit 2 .atHL s

/-- RES 2,A (R285). -/
def execRES_2_A (s : State) : Result := clearBit 2 (.reg .A) s

/-- RES 3,B (R285). -/
def execRES_3_B (s : State) : Result := clearBit 3 (.reg .B) s

/-- RES 3,C (R285). -/
def execRES_3_C (s : State) : Result := clearBit 3 (.reg .C) s

/-- RES 3,D (R285). -/
def execRES_3_D (s : State) : Result := clearBit 3 (.reg .D) s

/-- RES 3,E (R285). -/
def execRES_3_E (s : State) : Result := clearBit 3 (.reg .E) s

/-- RES 3,H (R285). -/
def execRES_3_H (s : State) : Result := clearBit 3 (.reg .H) s

/-- RES 3,L (R285). -/
def execRES_3_L (s : State) : Result := clearBit 3 (.reg .L) s

/-- RES 3,(HL) (R285). -/
def execRES_3__HL (s : State) : Result := clearBit 3 .atHL s

/-- RES 3,A (R285). -/
def execRES_3_A (s : State) : Result := clearBit 3 (.reg .A) s

/-- RES 4,B (R285). -/
def execRES_4_B (s : State) : Result := clearBit 4 (.reg .B) s

/-- RES 4,C (R285). -/
def execRES_4_C (s : State) : Result := clearBit 4 (.reg .C) s

/-- RES 4,D (R285). -/
def execRES_4_D (s : State) : Result := clearBit 4 (.reg .D) s

/-- RES 4,E (R285). -/
def execRES_4_E (s : State) : Result := clearBit 4 (.reg .E) s

/-- RES 4,H (R285). -/
def execRES_4_H (s : State) : Result := clearBit 4 (.reg .H) s

/-- RES 4,L (R285). -/
def execRES_4_L (s : State) : Result := clearBit 4 (.reg .L) s

/-- RES 4,(HL) (R285). -/
def execRES_4__HL (s : State) : Result := clearBit 4 .atHL s

/-- RES 4,A (R285). -/
def execRES_4_A (s : State) : Result := clearBit 4 (.reg .A) s

/-- RES 5,B (R285). -/
def execRES_5_B (s : State) : Result := clearBit 5 (.reg .B) s

/-- RES 5,C (R285). -/
def execRES_5_C (s : State) : Result := clearBit 5 (.reg .C) s

/-- RES 5,D (R285). -/
def execRES_5_D (s : State) : Result := clearBit 5 (.reg .D) s

/-- RES 5,E (R285). -/
def execRES_5_E (s : State) : Result := clearBit 5 (.reg .E) s

/-- RES 5,H (R285). -/
def execRES_5_H (s : State) : Result := clearBit 5 (.reg .H) s

/-- RES 5,L (R285). -/
def execRES_5_L (s : State) : Result := clearBit 5 (.reg .L) s

/-- RES 5,(HL) (R285). -/
def execRES_5__HL (s : State) : Result := clearBit 5 .atHL s

/-- RES 5,A (R285). -/
def execRES_5_A (s : State) : Result := clearBit 5 (.reg .A) s

/-- RES 6,B (R285). -/
def execRES_6_B (s : State) : Result := clearBit 6 (.reg .B) s

/-- RES 6,C (R285). -/
def execRES_6_C (s : State) : Result := clearBit 6 (.reg .C) s

/-- RES 6,D (R285). -/
def execRES_6_D (s : State) : Result := clearBit 6 (.reg .D) s

/-- RES 6,E (R285). -/
def execRES_6_E (s : State) : Result := clearBit 6 (.reg .E) s

/-- RES 6,H (R285). -/
def execRES_6_H (s : State) : Result := clearBit 6 (.reg .H) s

/-- RES 6,L (R285). -/
def execRES_6_L (s : State) : Result := clearBit 6 (.reg .L) s

/-- RES 6,(HL) (R285). -/
def execRES_6__HL (s : State) : Result := clearBit 6 .atHL s

/-- RES 6,A (R285). -/
def execRES_6_A (s : State) : Result := clearBit 6 (.reg .A) s

/-- RES 7,B (R285). -/
def execRES_7_B (s : State) : Result := clearBit 7 (.reg .B) s

/-- RES 7,C (R285). -/
def execRES_7_C (s : State) : Result := clearBit 7 (.reg .C) s

/-- RES 7,D (R285). -/
def execRES_7_D (s : State) : Result := clearBit 7 (.reg .D) s

/-- RES 7,E (R285). -/
def execRES_7_E (s : State) : Result := clearBit 7 (.reg .E) s

/-- RES 7,H (R285). -/
def execRES_7_H (s : State) : Result := clearBit 7 (.reg .H) s

/-- RES 7,L (R285). -/
def execRES_7_L (s : State) : Result := clearBit 7 (.reg .L) s

/-- RES 7,(HL) (R285). -/
def execRES_7__HL (s : State) : Result := clearBit 7 .atHL s

/-- RES 7,A (R285). -/
def execRES_7_A (s : State) : Result := clearBit 7 (.reg .A) s

/-- SET 0,B (R286). -/
def execSET_0_B (s : State) : Result := raiseBit 0 (.reg .B) s

/-- SET 0,C (R286). -/
def execSET_0_C (s : State) : Result := raiseBit 0 (.reg .C) s

/-- SET 0,D (R286). -/
def execSET_0_D (s : State) : Result := raiseBit 0 (.reg .D) s

/-- SET 0,E (R286). -/
def execSET_0_E (s : State) : Result := raiseBit 0 (.reg .E) s

/-- SET 0,H (R286). -/
def execSET_0_H (s : State) : Result := raiseBit 0 (.reg .H) s

/-- SET 0,L (R286). -/
def execSET_0_L (s : State) : Result := raiseBit 0 (.reg .L) s

/-- SET 0,(HL) (R286). -/
def execSET_0__HL (s : State) : Result := raiseBit 0 .atHL s

/-- SET 0,A (R286). -/
def execSET_0_A (s : State) : Result := raiseBit 0 (.reg .A) s

/-- SET 1,B (R286). -/
def execSET_1_B (s : State) : Result := raiseBit 1 (.reg .B) s

/-- SET 1,C (R286). -/
def execSET_1_C (s : State) : Result := raiseBit 1 (.reg .C) s

/-- SET 1,D (R286). -/
def execSET_1_D (s : State) : Result := raiseBit 1 (.reg .D) s

/-- SET 1,E (R286). -/
def execSET_1_E (s : State) : Result := raiseBit 1 (.reg .E) s

/-- SET 1,H (R286). -/
def execSET_1_H (s : State) : Result := raiseBit 1 (.reg .H) s

/-- SET 1,L (R286). -/
def execSET_1_L (s : State) : Result := raiseBit 1 (.reg .L) s

/-- SET 1,(HL) (R286). -/
def execSET_1__HL (s : State) : Result := raiseBit 1 .atHL s

/-- SET 1,A (R286). -/
def execSET_1_A (s : State) : Result := raiseBit 1 (.reg .A) s

/-- SET 2,B (R286). -/
def execSET_2_B (s : State) : Result := raiseBit 2 (.reg .B) s

/-- SET 2,C (R286). -/
def execSET_2_C (s : State) : Result := raiseBit 2 (.reg .C) s

/-- SET 2,D (R286). -/
def execSET_2_D (s : State) : Result := raiseBit 2 (.reg .D) s

/-- SET 2,E (R286). -/
def execSET_2_E (s : State) : Result := raiseBit 2 (.reg .E) s

/-- SET 2,H (R286). -/
def execSET_2_H (s : State) : Result := raiseBit 2 (.reg .H) s

/-- SET 2,L (R286). -/
def execSET_2_L (s : State) : Result := raiseBit 2 (.reg .L) s

/-- SET 2,(HL) (R286). -/
def execSET_2__HL (s : State) : Result := raiseBit 2 .atHL s

/-- SET 2,A (R286). -/
def execSET_2_A (s : State) : Result := raiseBit 2 (.reg .A) s

/-- SET 3,B (R286). -/
def execSET_3_B (s : State) : Result := raiseBit 3 (.reg .B) s

/-- SET 3,C (R286). -/
def execSET_3_C (s : State) : Result := raiseBit 3 (.reg .C) s

/-- SET 3,D (R286). -/
def execSET_3_D (s : State) : Result := raiseBit 3 (.reg .D) s

/-- SET 3,E (R286). -/
def execSET_3_E (s : State) : Result := raiseBit 3 (.reg .E) s

/-- SET 3,H (R286). -/
def execSET_3_H (s : State) : Result := raiseBit 3 (.reg .H) s

/-- SET 3,L (R286). -/
def execSET_3_L (s : State) : Result := raiseBit 3 (.reg .L) s

/-- SET 3,(HL) (R286). -/
def execSET_3__HL (s : State) : Result := raiseBit 3 .atHL s

/-- SET 3,A (R286). -/
def execSET_3_A (s : State) : Result := raiseBit 3 (.reg .A) s

/-- SET 4,B (R286). -/
def execSET_4_B (s : State) : Result := raiseBit 4 (.reg .B) s

/-- SET 4,C (R286). -/
def execSET_4_C (s : State) : Result := raiseBit 4 (.reg .C) s

/-- SET 4,D (R286). -/
def execSET_4_D (s : State) : Result := raiseBit 4 (.reg .D) s

/-- SET 4,E (R286). -/
def execSET_4_E (s : State) : Result := raiseBit 4 (.reg .E) s

/-- SET 4,H (R286). -/
def execSET_4_H (s : State) : Result := raiseBit 4 (.reg .H) s

/-- SET 4,L (R286). -/
def execSET_4_L (s : State) : Result := raiseBit 4 (.reg .L) s

/-- SET 4,(HL) (R286). -/
def execSET_4__HL (s : State) : Result := raiseBit 4 .atHL s

/-- SET 4,A (R286). -/
def execSET_4_A (s : State) : Result := raiseBit 4 (.reg .A) s

/-- SET 5,B (R286). -/
def execSET_5_B (s : State) : Result := raiseBit 5 (.reg .B) s

/-- SET 5,C (R286). -/
def execSET_5_C (s : State) : Result := raiseBit 5 (.reg .C) s

/-- SET 5,D (R286). -/
def execSET_5_D (s : State) : Result := raiseBit 5 (.reg .D) s

/-- SET 5,E (R286). -/
def execSET_5_E (s : State) : Result := raiseBit 5 (.reg .E) s

/-- SET 5,H (R286). -/
def execSET_5_H (s : State) : Result := raiseBit 5 (.reg .H) s

/-- SET 5,L (R286). -/
def execSET_5_L (s : State) : Result := raiseBit 5 (.reg .L) s

/-- SET 5,(HL) (R286). -/
def execSET_5__HL (s : State) : Result := raiseBit 5 .atHL s

/-- SET 5,A (R286). -/
def execSET_5_A (s : State) : Result := raiseBit 5 (.reg .A) s

/-- SET 6,B (R286). -/
def execSET_6_B (s : State) : Result := raiseBit 6 (.reg .B) s

/-- SET 6,C (R286). -/
def execSET_6_C (s : State) : Result := raiseBit 6 (.reg .C) s

/-- SET 6,D (R286). -/
def execSET_6_D (s : State) : Result := raiseBit 6 (.reg .D) s

/-- SET 6,E (R286). -/
def execSET_6_E (s : State) : Result := raiseBit 6 (.reg .E) s

/-- SET 6,H (R286). -/
def execSET_6_H (s : State) : Result := raiseBit 6 (.reg .H) s

/-- SET 6,L (R286). -/
def execSET_6_L (s : State) : Result := raiseBit 6 (.reg .L) s

/-- SET 6,(HL) (R286). -/
def execSET_6__HL (s : State) : Result := raiseBit 6 .atHL s

/-- SET 6,A (R286). -/
def execSET_6_A (s : State) : Result := raiseBit 6 (.reg .A) s

/-- SET 7,B (R286). -/
def execSET_7_B (s : State) : Result := raiseBit 7 (.reg .B) s

/-- SET 7,C (R286). -/
def execSET_7_C (s : State) : Result := raiseBit 7 (.reg .C) s

/-- SET 7,D (R286). -/
def execSET_7_D (s : State) : Result := raiseBit 7 (.reg .D) s

/-- SET 7,E (R286). -/
def execSET_7_E (s : State) : Result := raiseBit 7 (.reg .E) s

/-- SET 7,H (R286). -/
def execSET_7_H (s : State) : Result := raiseBit 7 (.reg .H) s

/-- SET 7,L (R286). -/
def execSET_7_L (s : State) : Result := raiseBit 7 (.reg .L) s

/-- SET 7,(HL) (R286). -/
def execSET_7__HL (s : State) : Result := raiseBit 7 .atHL s

/-- SET 7,A (R286). -/
def execSET_7_A (s : State) : Result := raiseBit 7 (.reg .A) s

end Sys2Proof.Machine
end

