-- ==== Sys2Proof/Machine/Control.lean ====
section
/-! DEFINITION. Machine/Control.lean: the control transfers (R300 to R311). `s.regs.pc` is the address of the instruction
that follows in memory (R300). -/

set_option linter.style.nameCheck false

namespace Sys2Proof.Machine

/-- R301: `pc <- target`. -/
def jumpTo (target : Word) (s : State) : Result := done (s.setPc target)

/-- R304: `pc <- pc + sext_16(e)`. -/
def jumpBy (e : Byte) (s : State) : Result := done (s.setPc (s.regs.pc + sext16 e))

/-- R306: `push16(pc); pc <- target`. -/
def callTo (target : Word) (s : State) : Result := done ((s.push16 s.regs.pc).setPc target)

/-- R308: `pc <- pop16()`. -/
def returnTo (s : State) : Result :=
  let rd := s.pop16
  done (rd.2.setPc rd.1)

/-- R302: `if cond(cc): pc <- a16`. -/
def jumpIf (cc : Cond) (nn : Word) (s : State) : Result := if s.cond cc then jumpTo nn s else done s

/-- R305: `if cond(cc): pc <- pc + sext_16(e)`. -/
def jumpByIf (cc : Cond) (e : Byte) (s : State) : Result := if s.cond cc then jumpBy e s else done s

/-- R307: `if cond(cc): push16(pc); pc <- a16`. -/
def callIf (cc : Cond) (nn : Word) (s : State) : Result := if s.cond cc then callTo nn s else done s

/-- R309: `if cond(cc): pc <- pop16()`. -/
def returnIf (cc : Cond) (s : State) : Result := if s.cond cc then returnTo s else done s

/-- R310: return, then interrupts are enabled with no delay. -/
def returnFromInterrupt (s : State) : Result :=
  let rd := s.pop16
  done (rd.2.setPc rd.1).returnEnable

/-- R311: a call of `t * 8`. -/
def restart (t : Fin 8) (s : State) : Result := callTo (BitVec.ofNat 16 (t.val * 8)) s

/-- JR r8 (R304). -/
def execJR_r8 (e : Byte) (s : State) : Result := jumpBy e s

/-- JR NZ,r8 (R305). -/
def execJR_NZ_r8 (e : Byte) (s : State) : Result := jumpByIf .NZ e s

/-- JR Z,r8 (R305). -/
def execJR_Z_r8 (e : Byte) (s : State) : Result := jumpByIf .Z e s

/-- JR NC,r8 (R305). -/
def execJR_NC_r8 (e : Byte) (s : State) : Result := jumpByIf .NC e s

/-- JR C,r8 (R305). -/
def execJR_C_r8 (e : Byte) (s : State) : Result := jumpByIf .C e s

/-- RET NZ (R309). -/
def execRET_NZ (s : State) : Result := returnIf .NZ s

/-- JP NZ,a16 (R302). -/
def execJP_NZ_a16 (nn : Word) (s : State) : Result := jumpIf .NZ nn s

/-- JP a16 (R301). -/
def execJP_a16 (nn : Word) (s : State) : Result := jumpTo nn s

/-- CALL NZ,a16 (R307). -/
def execCALL_NZ_a16 (nn : Word) (s : State) : Result := callIf .NZ nn s

/-- RST 0x00 (R311). -/
def execRST_0x00 (s : State) : Result := restart 0 s

/-- RET Z (R309). -/
def execRET_Z (s : State) : Result := returnIf .Z s

/-- RET (R308). -/
def execRET (s : State) : Result := returnTo s

/-- JP Z,a16 (R302). -/
def execJP_Z_a16 (nn : Word) (s : State) : Result := jumpIf .Z nn s

/-- CALL Z,a16 (R307). -/
def execCALL_Z_a16 (nn : Word) (s : State) : Result := callIf .Z nn s

/-- CALL a16 (R306). -/
def execCALL_a16 (nn : Word) (s : State) : Result := callTo nn s

/-- RST 0x08 (R311). -/
def execRST_0x08 (s : State) : Result := restart 1 s

/-- RET NC (R309). -/
def execRET_NC (s : State) : Result := returnIf .NC s

/-- JP NC,a16 (R302). -/
def execJP_NC_a16 (nn : Word) (s : State) : Result := jumpIf .NC nn s

/-- CALL NC,a16 (R307). -/
def execCALL_NC_a16 (nn : Word) (s : State) : Result := callIf .NC nn s

/-- RST 0x10 (R311). -/
def execRST_0x10 (s : State) : Result := restart 2 s

/-- RET C (R309). -/
def execRET_C (s : State) : Result := returnIf .C s

/-- RETI (R310). -/
def execRETI (s : State) : Result := returnFromInterrupt s

/-- JP C,a16 (R302). -/
def execJP_C_a16 (nn : Word) (s : State) : Result := jumpIf .C nn s

/-- CALL C,a16 (R307). -/
def execCALL_C_a16 (nn : Word) (s : State) : Result := callIf .C nn s

/-- RST 0x18 (R311). -/
def execRST_0x18 (s : State) : Result := restart 3 s

/-- RST 0x20 (R311). -/
def execRST_0x20 (s : State) : Result := restart 4 s

/-- JP (HL) (R303). -/
def execJP__HL (s : State) : Result := jumpTo s.hl s

/-- RST 0x28 (R311). -/
def execRST_0x28 (s : State) : Result := restart 5 s

/-- RST 0x30 (R311). -/
def execRST_0x30 (s : State) : Result := restart 6 s

/-- RST 0x38 (R311). -/
def execRST_0x38 (s : State) : Result := restart 7 s

end Sys2Proof.Machine
end

