-- ==== Sys2Proof/Machine/Load16.lean ====
section
/-! DEFINITION. Machine/Load16.lean: the 16-bit loads, stores and stack instructions (R200 to R206). -/

set_option linter.style.nameCheck false

namespace Sys2Proof.Machine

/-- R201: `rp[p] <- d16`. -/
def loadImm16 (r : Reg16) (nn : Word) (s : State) : Result := done (s.setR16 r nn)

/-- R205. -/
def pushPair (r : StackPair) (s : State) : Result := done (s.push16 (s.pair r))

/-- R206. -/
def popPair (r : StackPair) (s : State) : Result :=
  let rd := s.pop16
  done (rd.2.setPair r rd.1)

/-- LD BC,d16 (R201). -/
def execLD_BC_d16 (nn : Word) (s : State) : Result := loadImm16 .BC nn s

/-- LD (a16),SP (R202). -/
def execLD__a16__SP (nn : Word) (s : State) : Result :=
  done ((s.busWrite nn (loByte s.regs.sp)).busWrite (nn + 1) (hiByte s.regs.sp))

/-- LD DE,d16 (R201). -/
def execLD_DE_d16 (nn : Word) (s : State) : Result := loadImm16 .DE nn s

/-- LD HL,d16 (R201). -/
def execLD_HL_d16 (nn : Word) (s : State) : Result := loadImm16 .HL nn s

/-- LD SP,d16 (R201). -/
def execLD_SP_d16 (nn : Word) (s : State) : Result := loadImm16 .SP nn s

/-- POP BC (R206). -/
def execPOP_BC (s : State) : Result := popPair .BC s

/-- PUSH BC (R205). -/
def execPUSH_BC (s : State) : Result := pushPair .BC s

/-- POP DE (R206). -/
def execPOP_DE (s : State) : Result := popPair .DE s

/-- PUSH DE (R205). -/
def execPUSH_DE (s : State) : Result := pushPair .DE s

/-- POP HL (R206). -/
def execPOP_HL (s : State) : Result := popPair .HL s

/-- PUSH HL (R205). -/
def execPUSH_HL (s : State) : Result := pushPair .HL s

/-- POP AF (R206). -/
def execPOP_AF (s : State) : Result := popPair .AF s

/-- PUSH AF (R205). -/
def execPUSH_AF (s : State) : Result := pushPair .AF s

/-- LD HL,SP+r8 (R204). -/
def execLD_HL_SP_r8 (e : Byte) (s : State) : Result :=
  done ((s.setF (addSPF s.regs.sp e)).setR16 .HL (s.regs.sp + sext16 e))

/-- LD SP,HL (R203). -/
def execLD_SP_HL (s : State) : Result := done (s.setSp s.hl)

end Sys2Proof.Machine
end

