-- ==== Sys2Proof/Machine/Load8.lean ====
section
/-! DEFINITION. Machine/Load8.lean: the 8-bit loads and stores (R170 to R189). A meaning takes the state in which every
byte of the instruction has been fetched, so pc is already past it (R27). -/

set_option linter.style.nameCheck false

namespace Sys2Proof.Machine

/-- R171: `x[y] <- x[z]`. -/
def moveReg (d r : Reg8) (s : State) : Result := done (s.setR8 d (s.r8 r))

/-- R172: `x[y] <- d8`. -/
def loadImm8 (d : Reg8) (n : Byte) (s : State) : Result := done (s.setR8 d n)

/-- R173: `x[y] <- MemRead(HL,1)`. -/
def loadFromHL (d : Reg8) (s : State) : Result :=
  let rd := s.busRead s.hl
  done (rd.2.setR8 d rd.1)

/-- R174, R175: `MemWrite(HL,1,v)`. -/
def storeToHL (v : Byte) (s : State) : Result := done (s.busWrite s.hl v)

/-- R176, R177, R180, R182, R184: `A <- MemRead(address,1)`. -/
def loadA (m : MemForm) (s : State) : Result :=
  let rd := s.busRead (s.addrOf m)
  done (rd.2.setR8 .A rd.1)

/-- R178, R179, R181, R183, R185: `MemWrite(address,1,A)`. -/
def storeA (m : MemForm) (s : State) : Result := done (s.busWrite (s.addrOf m) s.regs.a)

/-- R188, R189: the check of R156, `A <- MemRead(HL,1)`, then HL changes by `delta`. -/
def loadAPost (delta : Word) (s : State) : Result :=
  let s1 := s.oamCheck .ldHl s.hl
  let rd := s1.busRead s1.hl
  done ((rd.2.setR8 .A rd.1).setR16 .HL (rd.2.hl + delta))

/-- R186, R187: the check of R156, `MemWrite(HL,1,A)`, then HL changes by `delta`. -/
def storeAPost (delta : Word) (s : State) : Result :=
  let s1 := s.oamCheck .ldHl s.hl
  let s2 := s1.busWrite s1.hl s1.regs.a
  done (s2.setR16 .HL (s2.hl + delta))

/-- LD (BC),A (R178). -/
def execLD__BC__A (s : State) : Result := storeA .atBC s

/-- LD B,d8 (R172). -/
def execLD_B_d8 (n : Byte) (s : State) : Result := loadImm8 .B n s

/-- LD A,(BC) (R176). -/
def execLD_A__BC (s : State) : Result := loadA .atBC s

/-- LD C,d8 (R172). -/
def execLD_C_d8 (n : Byte) (s : State) : Result := loadImm8 .C n s

/-- LD (DE),A (R179). -/
def execLD__DE__A (s : State) : Result := storeA .atDE s

/-- LD D,d8 (R172). -/
def execLD_D_d8 (n : Byte) (s : State) : Result := loadImm8 .D n s

/-- LD A,(DE) (R177). -/
def execLD_A__DE (s : State) : Result := loadA .atDE s

/-- LD E,d8 (R172). -/
def execLD_E_d8 (n : Byte) (s : State) : Result := loadImm8 .E n s

/-- LD (HL+),A (R186). -/
def execLD__HLI__A (s : State) : Result := storeAPost 1 s

/-- LD H,d8 (R172). -/
def execLD_H_d8 (n : Byte) (s : State) : Result := loadImm8 .H n s

/-- LD A,(HL+) (R188). -/
def execLD_A__HLI (s : State) : Result := loadAPost 1 s

/-- LD L,d8 (R172). -/
def execLD_L_d8 (n : Byte) (s : State) : Result := loadImm8 .L n s

/-- LD (HL-),A (R187). -/
def execLD__HLD__A (s : State) : Result := storeAPost (-1) s

/-- LD (HL),d8 (R175). -/
def execLD__HL__d8 (n : Byte) (s : State) : Result := storeToHL n s

/-- LD A,(HL-) (R189). -/
def execLD_A__HLD (s : State) : Result := loadAPost (-1) s

/-- LD A,d8 (R172). -/
def execLD_A_d8 (n : Byte) (s : State) : Result := loadImm8 .A n s

/-- LD B,B (R171). -/
def execLD_B_B (s : State) : Result := moveReg .B .B s

/-- LD B,C (R171). -/
def execLD_B_C (s : State) : Result := moveReg .B .C s

/-- LD B,D (R171). -/
def execLD_B_D (s : State) : Result := moveReg .B .D s

/-- LD B,E (R171). -/
def execLD_B_E (s : State) : Result := moveReg .B .E s

/-- LD B,H (R171). -/
def execLD_B_H (s : State) : Result := moveReg .B .H s

/-- LD B,L (R171). -/
def execLD_B_L (s : State) : Result := moveReg .B .L s

/-- LD B,(HL) (R173). -/
def execLD_B__HL (s : State) : Result := loadFromHL .B s

/-- LD B,A (R171). -/
def execLD_B_A (s : State) : Result := moveReg .B .A s

/-- LD C,B (R171). -/
def execLD_C_B (s : State) : Result := moveReg .C .B s

/-- LD C,C (R171). -/
def execLD_C_C (s : State) : Result := moveReg .C .C s

/-- LD C,D (R171). -/
def execLD_C_D (s : State) : Result := moveReg .C .D s

/-- LD C,E (R171). -/
def execLD_C_E (s : State) : Result := moveReg .C .E s

/-- LD C,H (R171). -/
def execLD_C_H (s : State) : Result := moveReg .C .H s

/-- LD C,L (R171). -/
def execLD_C_L (s : State) : Result := moveReg .C .L s

/-- LD C,(HL) (R173). -/
def execLD_C__HL (s : State) : Result := loadFromHL .C s

/-- LD C,A (R171). -/
def execLD_C_A (s : State) : Result := moveReg .C .A s

/-- LD D,B (R171). -/
def execLD_D_B (s : State) : Result := moveReg .D .B s

/-- LD D,C (R171). -/
def execLD_D_C (s : State) : Result := moveReg .D .C s

/-- LD D,D (R171). -/
def execLD_D_D (s : State) : Result := moveReg .D .D s

/-- LD D,E (R171). -/
def execLD_D_E (s : State) : Result := moveReg .D .E s

/-- LD D,H (R171). -/
def execLD_D_H (s : State) : Result := moveReg .D .H s

/-- LD D,L (R171). -/
def execLD_D_L (s : State) : Result := moveReg .D .L s

/-- LD D,(HL) (R173). -/
def execLD_D__HL (s : State) : Result := loadFromHL .D s

/-- LD D,A (R171). -/
def execLD_D_A (s : State) : Result := moveReg .D .A s

/-- LD E,B (R171). -/
def execLD_E_B (s : State) : Result := moveReg .E .B s

/-- LD E,C (R171). -/
def execLD_E_C (s : State) : Result := moveReg .E .C s

/-- LD E,D (R171). -/
def execLD_E_D (s : State) : Result := moveReg .E .D s

/-- LD E,E (R171). -/
def execLD_E_E (s : State) : Result := moveReg .E .E s

/-- LD E,H (R171). -/
def execLD_E_H (s : State) : Result := moveReg .E .H s

/-- LD E,L (R171). -/
def execLD_E_L (s : State) : Result := moveReg .E .L s

/-- LD E,(HL) (R173). -/
def execLD_E__HL (s : State) : Result := loadFromHL .E s

/-- LD E,A (R171). -/
def execLD_E_A (s : State) : Result := moveReg .E .A s

/-- LD H,B (R171). -/
def execLD_H_B (s : State) : Result := moveReg .H .B s

/-- LD H,C (R171). -/
def execLD_H_C (s : State) : Result := moveReg .H .C s

/-- LD H,D (R171). -/
def execLD_H_D (s : State) : Result := moveReg .H .D s

/-- LD H,E (R171). -/
def execLD_H_E (s : State) : Result := moveReg .H .E s

/-- LD H,H (R171). -/
def execLD_H_H (s : State) : Result := moveReg .H .H s

/-- LD H,L (R171). -/
def execLD_H_L (s : State) : Result := moveReg .H .L s

/-- LD H,(HL) (R173). -/
def execLD_H__HL (s : State) : Result := loadFromHL .H s

/-- LD H,A (R171). -/
def execLD_H_A (s : State) : Result := moveReg .H .A s

/-- LD L,B (R171). -/
def execLD_L_B (s : State) : Result := moveReg .L .B s

/-- LD L,C (R171). -/
def execLD_L_C (s : State) : Result := moveReg .L .C s

/-- LD L,D (R171). -/
def execLD_L_D (s : State) : Result := moveReg .L .D s

/-- LD L,E (R171). -/
def execLD_L_E (s : State) : Result := moveReg .L .E s

/-- LD L,H (R171). -/
def execLD_L_H (s : State) : Result := moveReg .L .H s

/-- LD L,L (R171). -/
def execLD_L_L (s : State) : Result := moveReg .L .L s

/-- LD L,(HL) (R173). -/
def execLD_L__HL (s : State) : Result := loadFromHL .L s

/-- LD L,A (R171). -/
def execLD_L_A (s : State) : Result := moveReg .L .A s

/-- LD (HL),B (R174). -/
def execLD__HL__B (s : State) : Result := storeToHL (s.r8 .B) s

/-- LD (HL),C (R174). -/
def execLD__HL__C (s : State) : Result := storeToHL (s.r8 .C) s

/-- LD (HL),D (R174). -/
def execLD__HL__D (s : State) : Result := storeToHL (s.r8 .D) s

/-- LD (HL),E (R174). -/
def execLD__HL__E (s : State) : Result := storeToHL (s.r8 .E) s

/-- LD (HL),H (R174). -/
def execLD__HL__H (s : State) : Result := storeToHL (s.r8 .H) s

/-- LD (HL),L (R174). -/
def execLD__HL__L (s : State) : Result := storeToHL (s.r8 .L) s

/-- LD (HL),A (R174). -/
def execLD__HL__A (s : State) : Result := storeToHL (s.r8 .A) s

/-- LD A,B (R171). -/
def execLD_A_B (s : State) : Result := moveReg .A .B s

/-- LD A,C (R171). -/
def execLD_A_C (s : State) : Result := moveReg .A .C s

/-- LD A,D (R171). -/
def execLD_A_D (s : State) : Result := moveReg .A .D s

/-- LD A,E (R171). -/
def execLD_A_E (s : State) : Result := moveReg .A .E s

/-- LD A,H (R171). -/
def execLD_A_H (s : State) : Result := moveReg .A .H s

/-- LD A,L (R171). -/
def execLD_A_L (s : State) : Result := moveReg .A .L s

/-- LD A,(HL) (R173). -/
def execLD_A__HL (s : State) : Result := loadFromHL .A s

/-- LD A,A (R171). -/
def execLD_A_A (s : State) : Result := moveReg .A .A s

/-- LDH (a8),A (R183). -/
def execLDH__a8__A (a : Byte) (s : State) : Result := storeA (.atA8 a) s

/-- LD (C),A (R185). -/
def execLD__C__A (s : State) : Result := storeA .atC s

/-- LD (a16),A (R181). -/
def execLD__a16__A (nn : Word) (s : State) : Result := storeA (.atA16 nn) s

/-- LDH A,(a8) (R182). -/
def execLDH_A__a8 (a : Byte) (s : State) : Result := loadA (.atA8 a) s

/-- LD A,(C) (R184). -/
def execLD_A__C (s : State) : Result := loadA .atC s

/-- LD A,(a16) (R180). -/
def execLD_A__a16 (nn : Word) (s : State) : Result := loadA (.atA16 nn) s

end Sys2Proof.Machine
end

