-- ==== Sys2Proof/Machine/Rotate.lean ====
section
/-! DEFINITION. Machine/Rotate.lean: the rotates, shifts and swaps (R270 to R283). -/

set_option linter.style.nameCheck false

namespace Sys2Proof.Machine

/-- R270 to R274: a rotate of A; Z is cleared. -/
def rotateA (op : RotOp) (s : State) : Result := done (s.setAF (accRot op s.regs.f s.regs.a))

/-- R275 to R283: read the operand, write the result back. -/
def rotate (op : RotOp) (x : Operand8) (s : State) : Result :=
  let rd := s.read8 x
  let o := rot op rd.2.regs.f rd.1
  done ((rd.2.setF o.f).write8 x o.val)

/-- RLCA (R271). -/
def execRLCA (s : State) : Result := rotateA .rlc s

/-- RRCA (R272). -/
def execRRCA (s : State) : Result := rotateA .rrc s

/-- RLA (R273). -/
def execRLA (s : State) : Result := rotateA .rl s

/-- RRA (R274). -/
def execRRA (s : State) : Result := rotateA .rr s

/-- RLC B (R276). -/
def execRLC_B (s : State) : Result := rotate .rlc (.reg .B) s

/-- RLC C (R276). -/
def execRLC_C (s : State) : Result := rotate .rlc (.reg .C) s

/-- RLC D (R276). -/
def execRLC_D (s : State) : Result := rotate .rlc (.reg .D) s

/-- RLC E (R276). -/
def execRLC_E (s : State) : Result := rotate .rlc (.reg .E) s

/-- RLC H (R276). -/
def execRLC_H (s : State) : Result := rotate .rlc (.reg .H) s

/-- RLC L (R276). -/
def execRLC_L (s : State) : Result := rotate .rlc (.reg .L) s

/-- RLC (HL) (R276). -/
def execRLC__HL (s : State) : Result := rotate .rlc .atHL s

/-- RLC A (R276). -/
def execRLC_A (s : State) : Result := rotate .rlc (.reg .A) s

/-- RRC B (R277). -/
def execRRC_B (s : State) : Result := rotate .rrc (.reg .B) s

/-- RRC C (R277). -/
def execRRC_C (s : State) : Result := rotate .rrc (.reg .C) s

/-- RRC D (R277). -/
def execRRC_D (s : State) : Result := rotate .rrc (.reg .D) s

/-- RRC E (R277). -/
def execRRC_E (s : State) : Result := rotate .rrc (.reg .E) s

/-- RRC H (R277). -/
def execRRC_H (s : State) : Result := rotate .rrc (.reg .H) s

/-- RRC L (R277). -/
def execRRC_L (s : State) : Result := rotate .rrc (.reg .L) s

/-- RRC (HL) (R277). -/
def execRRC__HL (s : State) : Result := rotate .rrc .atHL s

/-- RRC A (R277). -/
def execRRC_A (s : State) : Result := rotate .rrc (.reg .A) s

/-- RL B (R278). -/
def execRL_B (s : State) : Result := rotate .rl (.reg .B) s

/-- RL C (R278). -/
def execRL_C (s : State) : Result := rotate .rl (.reg .C) s

/-- RL D (R278). -/
def execRL_D (s : State) : Result := rotate .rl (.reg .D) s

/-- RL E (R278). -/
def execRL_E (s : State) : Result := rotate .rl (.reg .E) s

/-- RL H (R278). -/
def execRL_H (s : State) : Result := rotate .rl (.reg .H) s

/-- RL L (R278). -/
def execRL_L (s : State) : Result := rotate .rl (.reg .L) s

/-- RL (HL) (R278). -/
def execRL__HL (s : State) : Result := rotate .rl .atHL s

/-- RL A (R278). -/
def execRL_A (s : State) : Result := rotate .rl (.reg .A) s

/-- RR B (R279). -/
def execRR_B (s : State) : Result := rotate .rr (.reg .B) s

/-- RR C (R279). -/
def execRR_C (s : State) : Result := rotate .rr (.reg .C) s

/-- RR D (R279). -/
def execRR_D (s : State) : Result := rotate .rr (.reg .D) s

/-- RR E (R279). -/
def execRR_E (s : State) : Result := rotate .rr (.reg .E) s

/-- RR H (R279). -/
def execRR_H (s : State) : Result := rotate .rr (.reg .H) s

/-- RR L (R279). -/
def execRR_L (s : State) : Result := rotate .rr (.reg .L) s

/-- RR (HL) (R279). -/
def execRR__HL (s : State) : Result := rotate .rr .atHL s

/-- RR A (R279). -/
def execRR_A (s : State) : Result := rotate .rr (.reg .A) s

/-- SLA B (R280). -/
def execSLA_B (s : State) : Result := rotate .sla (.reg .B) s

/-- SLA C (R280). -/
def execSLA_C (s : State) : Result := rotate .sla (.reg .C) s

/-- SLA D (R280). -/
def execSLA_D (s : State) : Result := rotate .sla (.reg .D) s

/-- SLA E (R280). -/
def execSLA_E (s : State) : Result := rotate .sla (.reg .E) s

/-- SLA H (R280). -/
def execSLA_H (s : State) : Result := rotate .sla (.reg .H) s

/-- SLA L (R280). -/
def execSLA_L (s : State) : Result := rotate .sla (.reg .L) s

/-- SLA (HL) (R280). -/
def execSLA__HL (s : State) : Result := rotate .sla .atHL s

/-- SLA A (R280). -/
def execSLA_A (s : State) : Result := rotate .sla (.reg .A) s

/-- SRA B (R281). -/
def execSRA_B (s : State) : Result := rotate .sra (.reg .B) s

/-- SRA C (R281). -/
def execSRA_C (s : State) : Result := rotate .sra (.reg .C) s

/-- SRA D (R281). -/
def execSRA_D (s : State) : Result := rotate .sra (.reg .D) s

/-- SRA E (R281). -/
def execSRA_E (s : State) : Result := rotate .sra (.reg .E) s

/-- SRA H (R281). -/
def execSRA_H (s : State) : Result := rotate .sra (.reg .H) s

/-- SRA L (R281). -/
def execSRA_L (s : State) : Result := rotate .sra (.reg .L) s

/-- SRA (HL) (R281). -/
def execSRA__HL (s : State) : Result := rotate .sra .atHL s

/-- SRA A (R281). -/
def execSRA_A (s : State) : Result := rotate .sra (.reg .A) s

/-- SWAP B (R282). -/
def execSWAP_B (s : State) : Result := rotate .swap (.reg .B) s

/-- SWAP C (R282). -/
def execSWAP_C (s : State) : Result := rotate .swap (.reg .C) s

/-- SWAP D (R282). -/
def execSWAP_D (s : State) : Result := rotate .swap (.reg .D) s

/-- SWAP E (R282). -/
def execSWAP_E (s : State) : Result := rotate .swap (.reg .E) s

/-- SWAP H (R282). -/
def execSWAP_H (s : State) : Result := rotate .swap (.reg .H) s

/-- SWAP L (R282). -/
def execSWAP_L (s : State) : Result := rotate .swap (.reg .L) s

/-- SWAP (HL) (R282). -/
def execSWAP__HL (s : State) : Result := rotate .swap .atHL s

/-- SWAP A (R282). -/
def execSWAP_A (s : State) : Result := rotate .swap (.reg .A) s

/-- SRL B (R283). -/
def execSRL_B (s : State) : Result := rotate .srl (.reg .B) s

/-- SRL C (R283). -/
def execSRL_C (s : State) : Result := rotate .srl (.reg .C) s

/-- SRL D (R283). -/
def execSRL_D (s : State) : Result := rotate .srl (.reg .D) s

/-- SRL E (R283). -/
def execSRL_E (s : State) : Result := rotate .srl (.reg .E) s

/-- SRL H (R283). -/
def execSRL_H (s : State) : Result := rotate .srl (.reg .H) s

/-- SRL L (R283). -/
def execSRL_L (s : State) : Result := rotate .srl (.reg .L) s

/-- SRL (HL) (R283). -/
def execSRL__HL (s : State) : Result := rotate .srl .atHL s

/-- SRL A (R283). -/
def execSRL_A (s : State) : Result := rotate .srl (.reg .A) s

end Sys2Proof.Machine
end

