-- ==== Sys2Proof/Machine/System.lean ====
section
/-! DEFINITION. Machine/System.lean: NOP, HALT, DI, EI, STOP, the CB byte alone, and the undefined opcodes (R330 to
R337). -/

set_option linter.style.nameCheck false

namespace Sys2Proof.Machine

/-- R334: `Speed <- 3 - Speed`. -/
def Speed.toggle : Speed → Speed
  | .single => .double
  | .double => .single

/-- NOP (R330). -/
def execNOP (s : State) : Result := done s

/-- STOP (R334): the CGB speed switch when it is armed, else `Stopped` with the display disabled. The byte `pad` is ignored
(R116). It does not step the delay counters (R139). -/
def execSTOP (_pad : Byte) (s : State) : Result :=
  if s.cfg.gbc && s.prepareSwitch then
    .next { s with speed := s.speed.toggle, prepareSwitch := false, phase := .opcode }
  else .next { (s.emit .lcdDisable) with ppu := { s.ppu with lcdEnabled := false }, phase := .stopped }

/-- HALT (R331): with IME = 0 and a request pending it does not halt, and the next opcode fetch will not advance pc.
It does not step the delay counters (R139). -/
def execHALT (s : State) : Result :=
  if s.ic.haltBug then .next { s with phase := .opcode, haltBug := true }
  else .next { s with phase := .halted }

/-- The eleven undefined opcodes (R337): the model fault, with pc already updated by the fetch (R135, C10). -/
def execUNDEFINED (op : Byte) (s : State) : Result := .fault (.undefinedOpcode op s.regs.pc)

/-- DI (R332). -/
def execDI (s : State) : Result := done { s with ic := s.ic.disableDelayed (s.cfg.gbc && s.cfg.diDelayCgb) }

/-- EI (R333). -/
def execEI (s : State) : Result := done { s with ic := s.ic.enableDelayed }

/-- The byte 0xCB alone (R335): no effect of its own; the next byte fetched indexes the CB table (R115, R135). `fetch`
never answers it, since it takes the byte after 0xCB with it. -/
def execPREFIX_CB (s : State) : Result := .next { s with latch := { Latches.clear with opcode1 := 0xCB }, phase := .extOpcode }

end Sys2Proof.Machine
end

