-- ==== Sys2Proof/Machine/Timing.lean ====
section
/-! DEFINITION. Machine/Timing.lean: how many M-cycles an instruction takes (R420, R421) and how many ticks an M-cycle is. -/

namespace Sys2Proof.Machine

/-- R421: the M-cycles of the sixteen primary opcodes `16*n .. 16*n+15`, one hexadecimal digit each, lowest opcode first.
A conditional instruction has its `taken` figure; an undefined opcode and the `0xCB` byte have the one M-cycle of their
fetch. -/
def cycleRow : Nat → Nat
  | 0x0 => 0x1322112152221121
  | 0x1 => 0x2322112132221121
  | 0x2 => 0x3322112132221121
  | 0x3 => 0x3322333132221121
  | 0x4 => 0x1111112111111121
  | 0x5 => 0x1111112111111121
  | 0x6 => 0x1111112111111121
  | 0x7 => 0x2222221211111121
  | 0x8 => 0x1111112111111121
  | 0x9 => 0x1111112111111121
  | 0xA => 0x1111112111111121
  | 0xB => 0x1111112111111121
  | 0xC => 0x5344642454416624
  | 0xD => 0x5341642454416124
  | 0xE => 0x3321142441411124
  | _   => 0x3321142432411124

/-- R421: the primary table, `taken`. -/
def primaryCycles (op : Byte) : Nat := cycleRow (op.toNat / 16) / 16 ^ (15 - op.toNat % 16) % 16

/-- R421: the CB table, the `0xCB` byte's own M-cycle included. -/
def cbCycles (op : Byte) : Nat := if fieldZ op = 6 then (if fieldX op = 1 then 3 else 4) else 2

/-- R302, R305, R307, R309: the primary opcodes that test a condition. -/
def isConditional (op : Byte) : Bool :=
  (fieldX op == 0 && fieldZ op == 0 && decide (4 ≤ fieldY op)) ||
  (fieldX op == 3 && decide (fieldY op < 4) && (fieldZ op == 0 || fieldZ op == 2 || fieldZ op == 4))

/-- R421: `not taken`: `JR cc` and `RET cc` 2, `JP cc` and `CALL cc` 3. -/
def notTakenCycles (op : Byte) : Nat := if fieldX op = 0 ∨ fieldZ op = 0 then 2 else 3

/-- R105: the condition of a conditional opcode, on the flags. -/
def State.condTaken (s : State) (op : Byte) : Bool := s.cond (condOf (fieldY op % 4))

/-- R421: the M-cycles of the instruction whose first two bytes are `b0` and `b1`. -/
def State.cycles (s : State) (b0 b1 : Byte) : Nat :=
  if b0 = 0xCB then cbCycles b1
  else if isConditional b0 && !s.condTaken b0 then notTakenCycles b0
  else primaryCycles b0

/-- R11, R130: an M-cycle is `4 / Speed` ticks. -/
def Speed.ticksPerCycle (sp : Speed) : Nat := 4 / sp.multiplier

end Sys2Proof.Machine
end

