-- ==== Sys2Proof/Machine/Engine.lean ====
section
/-! DEFINITION. Machine/Engine.lean: the tick-driven fetch-decode-execute machine of R130 to R147 and R361 to R365, on the
same State: micro-ops (R140 to R144), the micro-op list of every opcode (R119, R121, assumption 12), one sub-step (R131),
one tick of the CPU (R130), one tick of the system with the other agents as inputs (R5, R8, R78, R83, R415), and the
M-cycles of the CPU beside the OAM DMA (R148). -/

namespace Sys2Proof.Machine

/-! ## Micro-ops (R140, R141) -/

/-- R141: the memory forms of `Load` and `Store`. `hlStep` is `(HL)` in an instruction that then steps HL (R156). -/
inductive MemArg where
  | bc | de | hl | hlStep | a16 | a8 | c
  deriving DecidableEq, Repr

/-- R141: the sources of `Load` and `Alu2`: registers, the operands of R106, constants, memory. -/
inductive Src where
  | reg (r : Reg8)
  | pair (r : Reg16)
  | stackPair (r : StackPair)
  | pc
  | d8
  | d16
  | r8
  | a8
  | a16
  | const (w : Word)
  | mem (m : MemArg)
  deriving DecidableEq, Repr

/-- R141: the destinations of `Store`. A 16-bit value is stored to `(a16)` in the two steps `a16Lo`, `a16Hi` (R63). -/
inductive Dst where
  | reg (r : Reg8)
  | pair (r : Reg16)
  | stackPair (r : StackPair)
  | pc
  | mem (m : MemArg)
  | a16Lo
  | a16Hi
  deriving DecidableEq, Repr

/-- R141 `Alu1`: the functions of one operand. -/
inductive Fn1 where
  | inc | dec | daa | cpl | scf | ccf
  | rotate (op : RotOp)
  | inc16 | dec16
  deriving DecidableEq, Repr

/-- R141 `Alu2`: the functions of two operands. `acc op` has A as its second argument, the operand in the context. -/
inductive Fn2 where
  | acc (op : AluOp)
  | addHL
  | addSP
  | addPc
  deriving DecidableEq, Repr

/-- R141 `Alu3`: the functions with a bit number. -/
inductive Fn3 where
  | bit | res | set
  deriving DecidableEq, Repr

/-- R141: the closed set of micro-op kinds. -/
inductive MicroOp where
  | load (src : Src)
  | store (dst : Dst)
  | alu1 (f : Fn1)
  | alu2 (f : Fn2) (src : Src)
  | alu3 (f : Fn3) (n : Fin 8)
  | pushHi
  | pushLo
  | popLo
  | popHi
  | proceedIf (cc : Cond)
  | extraCycle
  | forceFinish
  | switchInterrupts (enable delayed : Bool)
  | bitHL (n : Fin 8)
  | incHL
  | decHL
  | clearZ
  deriving DecidableEq, Repr

/-- R141, R143, columns `reads mem` and `writes mem`: the micro-op counts as a bus access. -/
def MicroOp.touches : MicroOp → Bool
  | .load (.mem _) => true
  | .store (.mem _) => true
  | .store .a16Lo => true
  | .store .a16Hi => true
  | .pushHi => true
  | .pushLo => true
  | .popLo => true
  | .popHi => true
  | .extraCycle => true
  | .bitHL _ => true
  | _ => false

/-- R143. -/
def MicroOp.forcesFinish : MicroOp → Bool
  | .forceFinish => true
  | _ => false

/-- The operand bytes of the instruction, as the latches hold them (R34). -/
structure Operands where
  b0 : Byte
  b1 : Byte
  deriving DecidableEq, Repr

/-- R106: `d16`, `a16`. -/
def Operands.word (o : Operands) : Word := pairOf o.b1 o.b0

/-- The operand form a memory argument names. -/
def MemArg.form (o : Operands) : MemArg → MemForm
  | .bc => .atBC
  | .de => .atDE
  | .hl => .atHL
  | .hlStep => .atHL
  | .a16 => .atA16 o.word
  | .a8 => .atA8 o.b0
  | .c => .atC

/-- R106, R107: how many operand bytes an argument needs. -/
def MemArg.operandLength : MemArg → Nat
  | .a16 => 2
  | .a8 => 1
  | _ => 0

/-- See `MemArg.operandLength`. -/
def Src.operandLength : Src → Nat
  | .d8 => 1
  | .d16 => 2
  | .r8 => 1
  | .a8 => 1
  | .a16 => 2
  | .mem m => m.operandLength
  | _ => 0

/-- See `MemArg.operandLength`. -/
def MicroOp.operandLength : MicroOp → Nat
  | .load src => src.operandLength
  | .alu2 _ src => src.operandLength
  | .store (.mem m) => m.operandLength
  | .store .a16Lo => 2
  | .store .a16Hi => 2
  | _ => 0

/-- R107: "operand byte length = max over micro-ops". -/
def operandLength (ops : List MicroOp) : Nat := ops.foldl (fun n op => max n op.operandLength) 0

/-- R106, R141: the value of a source, as a context of up to 16 bits, and the state after its bus access. -/
def Src.value (o : Operands) (s : State) : Src → Word × State
  | .reg r => (zext16 (s.r8 r), s)
  | .pair r => (s.r16 r, s)
  | .stackPair r => (s.pair r, s)
  | .pc => (s.regs.pc, s)
  | .d8 => (zext16 o.b0, s)
  | .d16 => (o.word, s)
  | .r8 => (sext16 o.b0, s)
  | .a8 => (0xFF00 + zext16 o.b0, s)
  | .a16 => (o.word, s)
  | .const w => (w, s)
  | .mem m =>
    let rd := s.busRead (s.addrOf (m.form o))
    (zext16 rd.1, rd.2)

/-- R141: write the context to a destination. -/
def Dst.store (o : Operands) (ctx : Word) (s : State) : Dst → State
  | .reg r => s.setR8 r (loByte ctx)
  | .pair r => s.setR16 r ctx
  | .stackPair r => s.setPair r ctx
  | .pc => s.setPc ctx
  | .mem m => s.busWrite (s.addrOf (m.form o)) (loByte ctx)
  | .a16Lo => s.busWrite o.word (loByte ctx)
  | .a16Hi => s.busWrite (o.word + 1) (hiByte ctx)

/-- The value and flags an 8-bit function leaves. -/
def setResult (s : State) (r : AluOut) : Word × State := (zext16 r.val, s.setF r.f)

/-- R141 `Alu1`. -/
def Fn1.run (ctx : Word) (s : State) : Fn1 → Word × State
  | .inc => setResult s (aluInc s.regs.f (loByte ctx))
  | .dec => setResult s (aluDec s.regs.f (loByte ctx))
  | .daa => setResult s (aluDaa s.regs.f (loByte ctx))
  | .cpl => setResult s (aluCpl s.regs.f (loByte ctx))
  | .scf => (ctx, s.setF (scfF s.regs.f))
  | .ccf => (ctx, s.setF (ccfF s.regs.f))
  | .rotate op => setResult s (rot op s.regs.f (loByte ctx))
  | .inc16 => (ctx + 1, s)
  | .dec16 => (ctx - 1, s)

/-- R141 `Alu2`; `v` is the value of the second source. `addSP` takes its flags from the operand byte itself, the low byte of
`v` (R204, R263). -/
def Fn2.run (ctx v : Word) (s : State) : Fn2 → Word × State
  | .acc op => setResult s (alu op s.regs.f (loByte v) (loByte ctx))
  | .addHL => (v + ctx, s.setF (addHLF s.regs.f v ctx))
  | .addSP => (ctx + v, s.setF (addSPF ctx (loByte v)))
  | .addPc => (ctx + v, s)

/-- R141 `Alu3`. -/
def Fn3.run (n : Fin 8) (ctx : Word) (s : State) : Fn3 → Word × State
  | .bit => (ctx, s.setF (bitF n s.regs.f (loByte ctx)))
  | .res => (zext16 (resBit n (loByte ctx)), s)
  | .set => (zext16 (setBit n (loByte ctx)), s)

/-- R144: `EI` is (1, 1), `DI` is (0, 1), `RETI` is (1, 0). -/
def State.switchInterrupts (s : State) (enable delayed : Bool) : State :=
  { s with ic :=
      match enable, delayed with
      | true, true => s.ic.enableDelayed
      | true, false => s.ic.enableNow
      | false, true => s.ic.disableDelayed (s.cfg.gbc && s.cfg.diDelayCgb)
      | false, false => s.ic.disableNow }

/-- One byte of a push whose OAM check has been made (R141 `Push`). -/
def State.pushStore (s : State) (v : Byte) : State :=
  let s1 := s.setSp (s.regs.sp - 1)
  s1.busWrite s1.regs.sp v

/-- One byte of a pop whose OAM check has been made (R141 `Pop`). -/
def State.popLoad (s : State) : Byte × State :=
  let rd := s.busRead s.regs.sp
  (rd.1, rd.2.setSp (rd.2.regs.sp + 1))

/-- R156: the corruption type of a micro-op and the register value it tests, before the step changes it. -/
def MicroOp.oam (ctx : Word) (s : State) : MicroOp → Option (OamType × Word)
  | .load (.mem .hlStep) => some (.ldHl, s.hl)
  | .store (.mem .hlStep) => some (.ldHl, s.hl)
  | .alu1 .inc16 => some (.incDec, ctx)
  | .alu1 .dec16 => some (.incDec, ctx)
  | .pushHi => some (.push1, s.regs.sp)
  | .pushLo => some (.push2, s.regs.sp)
  | .popLo => some (.pop1, s.regs.sp)
  | .popHi => some (.pop2, s.regs.sp)
  | _ => none

/-- R138: the OAM check of a micro-op, where it has one. -/
def MicroOp.check (op : MicroOp) (ctx : Word) (s : State) : State :=
  match op.oam ctx s with
  | some (t, v) => s.oamCheck t v
  | none => s

/-- R141: the effect of a micro-op on the context and the state. -/
def MicroOp.execute (o : Operands) (ctx : Word) (s : State) : MicroOp → Word × State
  | .load src => src.value o s
  | .store dst => (ctx, dst.store o ctx s)
  | .alu1 f => f.run ctx s
  | .alu2 f src => f.run ctx (src.value o s).1 s
  | .alu3 f n => f.run n ctx s
  | .pushHi => (ctx, s.pushStore (hiByte ctx))
  | .pushLo => (ctx, s.pushStore (loByte ctx))
  | .popLo => (zext16 s.popLoad.1, s.popLoad.2)
  | .popHi => (pairOf s.popLoad.1 (loByte ctx), s.popLoad.2)
  | .proceedIf _ => (ctx, s)
  | .extraCycle => (ctx, s)
  | .forceFinish => (ctx, s)
  | .switchInterrupts en del => (ctx, s.switchInterrupts en del)
  | .bitHL n =>
    let rd := s.busRead s.hl
    (zext16 rd.1, rd.2.setF (bitF n rd.2.regs.f rd.1))
  | .incHL => (ctx, s.setR16 .HL (s.hl + 1))
  | .decHL => (ctx, s.setR16 .HL (s.hl - 1))
  | .clearZ => (ctx, s.setF (Sys2Proof.Machine.clearZ s.regs.f))

/-- R142: the micro-op ends the list here. -/
def MicroOp.stops (s : State) : MicroOp → Bool
  | .proceedIf cc => !s.cond cc
  | _ => false

/-- The effect of a micro-op list run to its end, apart from time (R145). -/
def runOps (o : Operands) (ops : List MicroOp) (ctx : Word) (s : State) : State :=
  match ops with
  | [] => s
  | op :: rest =>
    if op.stops s then s
    else
      let r := op.execute o ctx (op.check ctx s)
      runOps o rest r.1 r.2

/-! ## The micro-op list of every opcode (R119, R121, assumption 12) -/

/-- `Load` of an 8-bit operand (R104). -/
def srcOf : Operand8 → Src
  | .reg r => .reg r
  | .atHL => .mem .hl

/-- `Store` of an 8-bit operand (R104). -/
def dstOf : Operand8 → Dst
  | .reg r => .reg r
  | .atHL => .mem .hl

/-- R301: the jump of JP. -/
def jumpOps : List MicroOp := [.extraCycle, .load .a16, .store .pc]

/-- R304: the jump of JR. -/
def jumpByOps : List MicroOp := [.extraCycle, .load .pc, .alu2 .addPc .r8, .store .pc]

/-- R306: the call of the address `target`. -/
def callOps (target : Src) : List MicroOp :=
  [.extraCycle, .load .pc, .pushHi, .pushLo, .load target, .store .pc]

/-- R308: the return. -/
def returnOps : List MicroOp := [.popLo, .popHi, .forceFinish, .store .pc]

/-- R111, rows `00......`. -/
def opsX0 (y z : Nat) : List MicroOp :=
  match z with
  | 0 =>
    match y with
    | 0 => []
    | 1 => [.load (.pair .SP), .store .a16Lo, .store .a16Hi]
    | 2 => []
    | 3 => jumpByOps
    | _ => .proceedIf (condOf (y % 4)) :: jumpByOps
  | 1 =>
    if y % 2 = 0 then [.load .d16, .store (.pair (reg16 (y / 2)))]
    else [.extraCycle, .load (.pair (reg16 (y / 2))), .alu2 .addHL (.pair .HL), .store (.pair .HL)]
  | 2 =>
    match y with
    | 0 => [.load (.reg .A), .store (.mem .bc)]
    | 1 => [.load (.mem .bc), .store (.reg .A)]
    | 2 => [.load (.reg .A), .store (.mem .de)]
    | 3 => [.load (.mem .de), .store (.reg .A)]
    | 4 => [.load (.reg .A), .store (.mem .hlStep), .incHL]
    | 5 => [.load (.mem .hlStep), .store (.reg .A), .incHL]
    | 6 => [.load (.reg .A), .store (.mem .hlStep), .decHL]
    | _ => [.load (.mem .hlStep), .store (.reg .A), .decHL]
  | 3 =>
    [.extraCycle, .load (.pair (reg16 (y / 2))), .alu1 (if y % 2 = 0 then .inc16 else .dec16),
      .store (.pair (reg16 (y / 2)))]
  | 4 => [.load (srcOf (operand8 y)), .alu1 .inc, .store (dstOf (operand8 y))]
  | 5 => [.load (srcOf (operand8 y)), .alu1 .dec, .store (dstOf (operand8 y))]
  | 6 => [.load .d8, .store (dstOf (operand8 y))]
  | _ =>
    match y with
    | 4 => [.load (.reg .A), .alu1 .daa, .store (.reg .A)]
    | 5 => [.load (.reg .A), .alu1 .cpl, .store (.reg .A)]
    | 6 => [.alu1 .scf]
    | 7 => [.alu1 .ccf]
    | y => [.load (.reg .A), .alu1 (.rotate (rotOp y)), .clearZ, .store (.reg .A)]

/-- R111, rows `11......`. -/
def opsX3 (y z : Nat) : List MicroOp :=
  match z with
  | 0 =>
    match y with
    | 4 => [.load (.reg .A), .store (.mem .a8)]
    | 5 => [.extraCycle, .extraCycle, .load (.pair .SP), .alu2 .addSP .r8, .store (.pair .SP)]
    | 6 => [.load (.mem .a8), .store (.reg .A)]
    | 7 => [.extraCycle, .load (.pair .SP), .alu2 .addSP .r8, .store (.pair .HL)]
    | y => .extraCycle :: .proceedIf (condOf (y % 4)) :: returnOps
  | 1 =>
    match y with
    | 1 => returnOps
    | 3 => returnOps ++ [.switchInterrupts true false]
    | 5 => [.load (.pair .HL), .store .pc]
    | 7 => [.extraCycle, .load (.pair .HL), .store (.pair .SP)]
    | y => [.popLo, .popHi, .store (.stackPair (stackPair (y / 2)))]
  | 2 =>
    match y with
    | 4 => [.load (.reg .A), .store (.mem .c)]
    | 5 => [.load (.reg .A), .store (.mem .a16)]
    | 6 => [.load (.mem .c), .store (.reg .A)]
    | 7 => [.load (.mem .a16), .store (.reg .A)]
    | y => .proceedIf (condOf (y % 4)) :: jumpOps
  | 3 =>
    match y with
    | 0 => jumpOps
    | 6 => [.switchInterrupts false true]
    | 7 => [.switchInterrupts true true]
    | _ => []
  | 4 => .proceedIf (condOf (y % 4)) :: callOps .a16
  | 5 =>
    if y % 2 = 0 then [.extraCycle, .load (.stackPair (stackPair (y / 2))), .pushHi, .pushLo] else callOps .a16
  | 6 => [.load .d8, .alu2 (.acc (aluOp y)) (.reg .A), .store (.reg .A)]
  | _ => callOps (.const (BitVec.ofNat 16 (y * 8)))

/-- R111: the primary table's lists. `STOP` and `HALT` have none (R331, R334); an undefined opcode's list is never run. -/
def primaryOps (op : Byte) : List MicroOp :=
  match fieldX op with
  | 0 => opsX0 (fieldY op) (fieldZ op)
  | 1 =>
    if op = 0x76 then []
    else [.load (srcOf (operand8 (fieldZ op))), .store (dstOf (operand8 (fieldY op)))]
  | 2 => [.load (srcOf (operand8 (fieldZ op))), .alu2 (.acc (aluOp (fieldY op))) (.reg .A), .store (.reg .A)]
  | _ => opsX3 (fieldY op) (fieldZ op)

/-- R112: the CB table's lists. -/
def cbOps (op : Byte) : List MicroOp :=
  let x := operand8 (fieldZ op)
  let n := fin8 (fieldY op)
  match fieldX op with
  | 0 => [.load (srcOf x), .alu1 (.rotate (rotOp (fieldY op))), .store (dstOf x)]
  | 1 => if x = .atHL then [.bitHL n] else [.load (srcOf x), .alu3 .bit n]
  | 2 => [.load (srcOf x), .alu3 .res n, .store (dstOf x)]
  | _ => [.load (srcOf x), .alu3 .set n, .store (dstOf x)]

/-- R119: the list of the table entry in the latch. -/
def Entry.ops : Entry → List MicroOp
  | .primary op => primaryOps op
  | .cb op => cbOps op

/-- The list `currentOpcode` selects. -/
def Latches.ops (l : Latches) : List MicroOp :=
  match l.current with
  | some e => e.ops
  | none => []

/-- The operand bytes latched. -/
def Latches.operands (l : Latches) : Operands := { b0 := l.operand0, b1 := l.operand1 }

/-! ## One sub-step (R131 to R139) -/

/-- R135, without the loop: the state after an opcode fetch, or the fault of an undefined opcode. -/
def fetchState (s : State) : Result :=
  let rd := s.fetchOpcode
  if undefinedOpcodes.contains rd.1 then .fault (.undefinedOpcode rd.1 rd.2.regs.pc)
  else if rd.1 = 0xCB then .next { rd.2 with latch := { Latches.clear with opcode1 := rd.1 }, phase := .extOpcode }
  else if rd.1 = 0x10 then
    .next { rd.2 with latch := { Latches.clear with opcode1 := rd.1, current := some (.primary rd.1) }, phase := .extOpcode }
  else .next { rd.2 with latch := { Latches.clear with opcode1 := rd.1, current := some (.primary rd.1) }, phase := .operand }

/-- R136, the case in which the bus is still free. -/
def fetchSecond (s : State) : State :=
  let rd := s.fetch8
  { rd.2 with
    latch := { rd.2.latch with
      opcode2 := rd.1
      current := match rd.2.latch.current with | none => some (.cb rd.1) | some e => some e }
    phase := .operand }

/-- R137: one operand byte. -/
def fetchOperand (s : State) : State :=
  let rd := s.fetch8
  { rd.2 with latch :=
      if rd.2.latch.operandIndex = 0 then { rd.2.latch with operand0 := rd.1, operandIndex := 1 }
      else { rd.2.latch with operand1 := rd.1, operandIndex := rd.2.latch.operandIndex + 1 } }

/-- R138, R139: the end of the micro-op list. -/
def finish (s : State) : State :=
  { s with phase := .opcode, latch := { s.latch with operandIndex := 0 } }.instructionFinished

/-- R138: execute the micro-op `op`, the next of the list. -/
def runMicroOp (op : MicroOp) (s : State) : State :=
  let r := op.execute s.latch.operands s.latch.opContext (op.check s.latch.opContext s)
  { r.2 with latch := { s.latch with opIndex := s.latch.opIndex + 1, opContext := r.1 } }

/-- R131 step 5: the loop. `accessed` is R38's `accessedMemory`; `fuel` bounds the passes through the loop. -/
def engineLoop (fuel : Nat) (accessed : Bool) (s : State) : Result :=
  match fuel with
  | 0 => .next s
  | fuel + 1 =>
    match s.phase with
    | .opcode =>
      match fetchState s with
      | .next s1 => engineLoop fuel true s1
      | .fault e => .fault e
      | .refused e => .refused e
    | .extOpcode => if accessed then .next s else engineLoop fuel true (fetchSecond s)
    | .operand =>
      if s.latch.operandIndex < operandLength s.latch.ops then
        if accessed then .next s else engineLoop fuel true (fetchOperand s)
      else engineLoop fuel accessed { s with phase := .running }
    | .running =>
      if s.latch.opcode1 = 0x10 then execSTOP s.latch.opcode2 s
      else if s.latch.opcode1 = 0x76 then execHALT s
      else
        match s.latch.ops[s.latch.opIndex]? with
        | none => .next (finish s)
        | some op =>
          if accessed && op.touches then .next s
          else if op.stops s then
            .next (finish { s with latch := { s.latch with opIndex := s.latch.ops.length } })
          else
            let s1 := runMicroOp op s
            if op.forcesFinish then .next s1 else engineLoop fuel (accessed || op.touches) s1
    | _ => .next s

/-- A bound on the passes through the loop of R131 in one sub-step: the fetch states and the longest micro-op list. -/
def loopFuel : Nat := 16

/-- R131 steps 1 and 2: the acceptance test, then the IRQ step of the state, if it is one. -/
def irqSubstep (s : State) : Option State :=
  match s.phase with
  | .irqReadIF => some (irqReadIF s)
  | .irqReadIE => some (irqReadIE s)
  | .irqPush1 => some (irqPush1 s)
  | .irqPush2 => some (irqPush2 s)
  | .irqJump => some (irqJump s)
  | _ => none

/-- R132: the states in which an interrupt is accepted. -/
def Phase.idle : Phase → Bool
  | .opcode => true
  | .halted => true
  | .stopped => true
  | _ => false

/-- R131. -/
def substep (s : State) : Result :=
  let s1 := if s.phase.idle && s.ic.accepts then acceptInterrupt s else s
  match irqSubstep s1 with
  | some s2 => .next s2
  | none =>
    match s1.phase with
    | .halted => if s1.ic.requested then engineLoop loopFuel false { s1 with phase := .opcode } else .next s1
    | .stopped => .next s1
    | _ => engineLoop loopFuel false s1

/-- `n` sub-steps, stopping at the first fault. -/
def substeps (n : Nat) (s : State) : Result :=
  match n with
  | 0 => .next s
  | n + 1 =>
    match substep s with
    | .next s1 => substeps n s1
    | .fault e => .fault e
    | .refused e => .refused e

/-! ## Ticks (R5, R8, R78, R83, R130) -/

/-- R130: one tick delivered to the CPU. -/
def cpuTick (s : State) : Result :=
  if s.speed.ticksPerCycle ≤ s.clockCycle + 1 then substep { s with clockCycle := 0 }
  else .next { s with clockCycle := s.clockCycle + 1 }

/-- R7 `Env`, R8: what the other agents do in one tick, as inputs: a byte another agent writes to IF or IE (R359, R415),
who requests an interrupt, whether HDMA takes the CPU's tick and what it copies (offsets into video RAM, bytes), and the
PPU's signals after the tick, where they change. -/
structure TickInput where
  writeIF : Option Byte
  writeIE : Option Byte
  joypad : Bool
  timer : Bool
  hdma : Option (List Host.Cell)
  serial : Bool
  lcdc : Bool
  vblank : Bool
  ppu : Option PpuSignals
  deriving DecidableEq, Repr

/-- A tick in which no other agent but the OAM DMA does anything. -/
def TickInput.quiet : TickInput :=
  { writeIF := none, writeIE := none, joypad := false, timer := false, hdma := none, serial := false, lcdc := false,
    vblank := false, ppu := none }

/-- R415: a write by another agent, if it makes one. -/
def State.agentWrite (s : State) (a : Word) : Option Byte → State
  | some v => s.busWrite a v
  | none => s

/-- R359: a request, if its source makes one. -/
def State.requestIf (s : State) (b : Bool) (i : Irq) : State :=
  if b then { s with ic := s.ic.request i } else s

/-- R72, R378: the bytes HDMA copies in a tick, each at an offset into the bank of video RAM selected. -/
def State.hdmaCopy (s : State) (cells : List Host.Cell) : State :=
  { s with mem := cells.foldl (fun m c => m.write (s.vramCell (0x8000 + c.1 % 0x2000)) c.2) s.mem }

/-- R5, R78, R415: one master-clock tick of the system: writes of IF and IE by another agent, Timer, then HDMA or the CPU,
then Dma, SerialPort and Gpu (assumption 22). -/
def tick (inp : TickInput) (s : State) : Result :=
  let s0 := (s.agentWrite 0xFF0F inp.writeIF).agentWrite 0xFFFF inp.writeIE
  let s1 := (s0.requestIf inp.joypad .joypad).requestIf inp.timer .timer
  let r : Result :=
    match inp.hdma with
    | some cells => .next (s1.hdmaCopy cells)
    | none => cpuTick s1
  match r with
  | .next s2 =>
    let s3 := ((s2.dmaAdvance 1).requestIf inp.serial .serial).requestIf inp.lcdc .lcdc
    .next { (s3.requestIf inp.vblank .vblank) with ppu := inp.ppu.getD s3.ppu }
  | .fault e => .fault e
  | .refused e => .refused e

/-- `n` ticks in which only the CPU and the OAM DMA act, stopping at the first fault. -/
def quietTicks (n : Nat) (s : State) : Result :=
  match n with
  | 0 => .next s
  | n + 1 =>
    match tick .quiet s with
    | .next s1 => quietTicks n s1
    | .fault e => .fault e
    | .refused e => .refused e

/-! ## M-cycles (R11, R146, R148) -/

/-- R78, R130: one M-cycle in which only the CPU and the OAM DMA act: the ticks up to the sub-step, which falls on the last
one, the sub-step, and the DMA's turn in that last tick. -/
def mCycle (s : State) : Result :=
  match substep (s.dmaAdvance (s.speed.ticksPerCycle - 1)) with
  | .next t => .next (t.dmaAdvance 1)
  | .fault e => .fault e
  | .refused e => .refused e

/-- M-cycles up to the next boundary between instructions, at most `fuel` of them. -/
def mCycles (fuel : Nat) (s : State) : Result :=
  match fuel with
  | 0 => .next s
  | fuel + 1 =>
    match mCycle s with
    | .next t => if t.phase.idle then .next t else mCycles fuel t
    | .fault e => .fault e
    | .refused e => .refused e

/-- A bound on the M-cycles of an instruction or a dispatch: the fetches and the longest micro-op list. -/
def mCycleFuel : Nat := 16

end Sys2Proof.Machine
end

