-- ==== Sys2Proof/Machine/Run.lean ====
section
/-! DEFINITION. Machine/Run.lean: the CPU at the granularity of R148, one whole instruction, one whole interrupt dispatch or
one idle M-cycle: at once where no OAM DMA is in progress, and M-cycle by M-cycle where one is, so that the DMA acts
between any two accesses (R75, R148, R377, R413). -/

namespace Sys2Proof.Machine

/-- R135 to R139 at once: fetch an instruction's bytes, decode them, run it. -/
def instructionStep (s : State) : Result :=
  let f := s.fetch
  exec (decodeBytes f.b0 f.b1 f.b2) f.st

/-- R131 to R134, R361 to R366 at once: what the CPU alone does between two boundaries. -/
def cpuStep (s : State) : Result :=
  if s.ic.accepts then .next (takeInterrupt s)
  else
    match s.phase with
    | .halted => if s.ic.requested then instructionStep { s with phase := .opcode } else .next s
    | .stopped => .next s
    | _ => instructionStep s

/-- The same with the OAM DMA, M-cycle by M-cycle. The instruction latches, valid inside an instruction only (R34), are left
as they were. -/
def timedStep (s : State) : Result :=
  match mCycles mCycleFuel s with
  | .next t => .next { t with latch := s.latch }
  | .fault e => .fault e
  | .refused e => .refused e

/-- R148: one step from a boundary. Where an OAM DMA is in progress before it or after it (the instruction started it), the
M-cycles are taken one by one; else no other agent acts and they are taken at once. -/
def boundaryStep (s : State) : Result :=
  match s.dma with
  | some _ => timedStep s
  | none =>
    match cpuStep s with
    | .next t => if t.dma.isSome then timedStep s else .next t
    | .fault e => .fault e
    | .refused e => .refused e

/-- Put one byte where a fetch from `a` reads it. -/
def State.placeByte (s : State) (a : Word) (v : Byte) : State :=
  match s.place a with
  | .ram k => { s with mem := s.mem.write k v }
  | .rom k => { s with mem := s.mem.write k v }
  | .boot k => { s with bootRom := s.bootRom.write k v }
  | _ => s

end Sys2Proof.Machine
end

