-- ==== Sys2Proof/Machine/Step.lean ====
section
/-! DEFINITION. Machine/Step.lean: one step of the machine at the granularity of R148, and placing a word where the next step
fetches it. -/

namespace Sys2Proof.Machine

/-- R131 to R134, R148: one step: one whole instruction, one whole interrupt dispatch, or one idle M-cycle. A state in the
middle of an instruction or of a dispatch (which no step reaches) takes one M-cycle (assumption 8). -/
def step (s : State) : Host.Outcome State Fault Refusal := if s.phase.idle then boundaryStep s else mCycle s

/-- The table word `w` stored at pc, and the machine at an instruction boundary at which no interrupt is accepted, so that
the very next step runs it (assumptions 2 and 4). -/
def State.withFetchWord (s : State) (nbits w : Nat) : State :=
  match tableBytes nbits w with
  | (b0, b1, b2) =>
    let s1 := { s with
      phase := .opcode
      haltBug := false
      ic := if s.ic.accepts then { s.ic with ifr := 0 } else s.ic }
    ((s1.placeByte s.regs.pc b0).placeByte (s.regs.pc + 1) b1).placeByte (s.regs.pc + 2) b2

end Sys2Proof.Machine
end

