-- ==== Sys2Proof/Safety.lean ====
section
/-! DEFINITION. Safety.lean: what counts as a safe run, and the terms claims are stated in: the field codes of the encoding
tables, the form and duration of an instruction, the flags, the frames of instructions, the invariant of the machine. -/

namespace Sys2Proof

/-! ## Field codes (R104, R105, R108, R109) -/

/-- R104. -/
def Reg8.code : Reg8 → Nat
  | .B => 0 | .C => 1 | .D => 2 | .E => 3 | .H => 4 | .L => 5 | .A => 7

/-- R104. -/
def Operand8.code : Operand8 → Nat
  | .reg r => r.code
  | .atHL => 6

/-- R105, table `rp`. -/
def Reg16.code : Reg16 → Nat
  | .BC => 0 | .DE => 1 | .HL => 2 | .SP => 3

/-- R105, table `rp2`. -/
def StackPair.code : StackPair → Nat
  | .BC => 0 | .DE => 1 | .HL => 2 | .AF => 3

/-- R105, the condition field. -/
def Cond.code : Cond → Nat
  | .NZ => 0 | .Z => 1 | .NC => 2 | .C => 3

/-- R108. -/
def AluOp.code : AluOp → Nat
  | .add => 0 | .adc => 1 | .sub => 2 | .sbc => 3 | .and => 4 | .xor => 5 | .or => 6 | .cp => 7

/-- R109. -/
def RotOp.code : RotOp → Nat
  | .rlc => 0 | .rrc => 1 | .rl => 2 | .rr => 3 | .sla => 4 | .sra => 5 | .swap => 6 | .srl => 7

/-- An opcode byte of the fields `x`, `y`, `z` of R102. -/
def opByte (x y z : Nat) : Byte := BitVec.ofNat 8 (64 * x + 8 * y + z)

namespace Machine

/-! ## Safe runs (R157, R337) -/

/-- A run of `n` steps from `s` that meets no fault: the only one there is is an undefined opcode. -/
def State.runsSafely (n : Nat) (s : State) : Prop := ∃ t, Host.Core.run Sys2Proof.core n s = .next t

/-! ## Form and duration (R111, R112, R421) -/

/-- The bytes `bytes` decode to `i`, whole, and the instruction they are takes `m` M-cycles in every state. -/
def Form (i : Instr) (bytes : List Byte) (m : Nat) : Prop :=
  decode bytes = .ok (i, []) ∧ ∀ s : State, s.cycles (bytes.getD 0 0) (bytes.getD 1 0) = m

/-- As `Form`, for a conditional instruction: `m` M-cycles taken and `n` not taken. -/
def CondForm (i : Instr) (cc : Cond) (bytes : List Byte) (m n : Nat) : Prop :=
  decode bytes = .ok (i, []) ∧
    ∀ s : State, s.cycles (bytes.getD 0 0) (bytes.getD 1 0) = if s.cond cc then m else n

/-! ## Flags (R22, R23) -/

/-- The four flags of a flag byte, and its low nibble 0. -/
def FlagsAre (f : Byte) (z n h c : Bool) : Prop :=
  flagZ f = z ∧ flagN f = n ∧ flagH f = h ∧ flagC f = c ∧ f &&& 0x0F = 0

/-- R276 to R283: `result` is the rotate, shift or swap of `v`, bit by bit, and `out` the bit that becomes C, with `c` the
carry before. -/
def RotatesTo (op : RotOp) (c : Bool) (v result : Byte) (out : Bool) : Prop :=
  (∀ i, i < 8 → result.getLsbD i =
    match op with
    | .rlc => if i = 0 then v.getLsbD 7 else v.getLsbD (i - 1)
    | .rrc => if i = 7 then v.getLsbD 0 else v.getLsbD (i + 1)
    | .rl => if i = 0 then c else v.getLsbD (i - 1)
    | .rr => if i = 7 then c else v.getLsbD (i + 1)
    | .sla => if i = 0 then false else v.getLsbD (i - 1)
    | .sra => if i = 7 then v.getLsbD 7 else v.getLsbD (i + 1)
    | .swap => v.getLsbD ((i + 4) % 8)
    | .srl => if i = 7 then false else v.getLsbD (i + 1)) ∧
  out = match op with
    | .rlc | .rl | .sla => v.getLsbD 7
    | .rrc | .rr | .sra | .srl => v.getLsbD 0
    | .swap => false

/-! ## Frames -/

/-- What no bus access and no data instruction reaches. -/
def SameInternal (s t : State) : Prop :=
  t.cfg = s.cfg ∧ t.phase = s.phase ∧ t.haltBug = s.haltBug ∧ t.clockCycle = s.clockCycle ∧ t.latch = s.latch ∧
    t.irq = s.irq ∧ t.speed = s.speed ∧ t.bootRom = s.bootRom ∧ t.ppu = s.ppu

/-- What a bus write can reach outside memory, IE and IF. -/
def SameReach (s t : State) : Prop :=
  t.prepareSwitch = s.prepareSwitch ∧ t.bootMapped = s.bootMapped ∧ t.banks = s.banks ∧ t.dma = s.dma ∧
    t.events = s.events

/-- Every byte of memory reads as before. -/
def SameBytes (s t : State) : Prop := ∀ k, t.mem.read k = s.mem.read k

/-- F, SP and pc are as before. -/
def SameFSpPc (s t : State) : Prop := t.regs.f = s.regs.f ∧ t.regs.sp = s.regs.sp ∧ t.regs.pc = s.regs.pc

/-- The end of an instruction that stores nothing: all but registers as before, and the interrupt controller's delay
counters stepped (R356). -/
def QuietFrame (s t : State) : Prop :=
  SameInternal s t ∧ SameReach s t ∧ SameBytes s t ∧ t.ic = s.ic.instructionFinished

/-- The end of an instruction whose one store is of `v` at address `a`: every byte but the cell of `a` reads as before, and
everything else the bus reaches is as after that one bus write. -/
def StoreFrame (s : State) (a : Word) (v : Byte) (t : State) : Prop :=
  SameInternal s t ∧ SameReach (s.busWrite a v) t ∧ t.ic = (s.busWrite a v).ic.instructionFinished ∧
    ∀ k, t.mem.read k = if s.storeCell a = some k then v else s.mem.read k

/-- R155, R156: the OAM check on the register value `v` cannot change the byte `k`: it does not fire, or there is no OAM
(FlatBus), or `k` is outside 0xFE00 to 0xFE9F. -/
def OamKept (s : State) (v : Word) (k : Nat) : Prop :=
  inOamPage v = false ∨ s.oamWindow = false ∨ s.cfg.bus = .flat ∨ k < 0xFE00 ∨ 0xFEA0 ≤ k

/-- R66, R156: the two bus writes of a push of `v`, each after its check: the state after the first, and after both. -/
def pushWrites (s : State) (v : Word) : State × State :=
  let w1 := (s.oamCheck .push1 s.regs.sp).busWrite (s.regs.sp - 1) (hiByte v)
  (w1, (w1.oamCheck .push2 (s.regs.sp - 1)).busWrite (s.regs.sp - 2) (loByte v))

/-- R67, R156: the two bus reads of a pop, each after its check: the word, low byte from SP and high byte from SP+1, and the
state after both. -/
def popReads (s : State) : Word × State :=
  let r1 := (s.oamCheck .pop1 s.regs.sp).busRead s.regs.sp
  let r2 := (r1.2.oamCheck .pop2 (s.regs.sp + 1)).busRead (s.regs.sp + 1)
  (pairOf r2.1 r1.1, r2.2)

/-- The bytes after a push of `v` (R66): the low byte where SP-2 lands, the high byte where SP-1 lands, the rest as
before; bytes of OAM only as far as the checks of R156 let them be. -/
def PushedBytes (s : State) (v : Word) (t : State) : Prop :=
  let m := (pushWrites s v).1
  (∀ k, m.storeCell (s.regs.sp - 2) = some k → t.mem.read k = loByte v) ∧
    ∀ k, OamKept s s.regs.sp k → OamKept s (s.regs.sp - 1) k →
      t.mem.read k = if m.storeCell (s.regs.sp - 2) = some k then loByte v
        else if s.storeCell (s.regs.sp - 1) = some k then hiByte v else s.mem.read k

/-- The end of an instruction that pushes `v` and does nothing else on the bus. -/
def PushFrame (s : State) (v : Word) (t : State) : Prop :=
  let w := (pushWrites s v).2
  SameInternal s t ∧ SameReach w t ∧ t.ic = w.ic.instructionFinished ∧ PushedBytes s v t

/-- The end of an instruction that pops and does nothing else on the bus, but for the interrupt controller. -/
def PopFrame (s t : State) : Prop :=
  SameInternal s t ∧ SameReach (popReads s).2 t ∧
    ∀ k, OamKept s s.regs.sp k → OamKept s (s.regs.sp + 1) k → t.mem.read k = s.mem.read k

/-- The end of an instruction whose only effect outside the registers is the OAM check of type `ty` on `v`. -/
def CheckFrame (s : State) (ty : OamType) (v : Word) (t : State) : Prop :=
  SameInternal s t ∧ SameReach (s.oamCheck ty v) t ∧ t.ic = s.ic.instructionFinished ∧
    ∀ k, OamKept s v k → t.mem.read k = s.mem.read k

/-! ## The invariant -/

/-- What holds of the machine's data at every tick: canonical memories inside the address space (R60, R61), `F[3:0] = 0`
(R23), the divider in its range (R32), the speed state (R37) and the banks (R72) of a DMG, at most one delay counter armed
(R356), a DMA window no longer than R75 says. Cells from 0x10000 to 0x17FFF are those of the other banks. -/
structure State.DataInv (s : State) : Prop where
  memCanonical : s.mem.wf = true
  memInSpace : ∀ c ∈ s.mem, c.1 < 0x18000
  bootCanonical : s.bootRom.wf = true
  flagsLow : s.regs.f &&& 0x0F = 0
  divider : s.clockCycle < s.speed.ticksPerCycle
  speedDmg : s.cfg.gbc = false → s.speed = .single ∧ s.prepareSwitch = false
  banksDmg : s.cfg.gbc = false → s.banks = { vram := 0, wram := 0 }
  oneCounter : s.ic.pendingEnable = none ∨ s.ic.pendingDisable = none
  dmaWindow : ∀ d, s.dma = some d → 0 < d.ticksLeft ∧ d.ticksLeft ≤ 648

/-- The invariant of `step`: the data's, at a boundary between instructions (R31, R153), right after a sub-step (R130). -/
structure State.Inv (s : State) : Prop where
  data : s.DataInv
  aligned : s.clockCycle = 0
  boundary : s.phase.idle = true

end Machine

end Sys2Proof
end

