-- ==== Sys2Proof/Certificates/Slice0/Obligations.lean ====
section
/-! DEFINITION. Certificates/Slice0/Obligations.lean: the statements for the provers. Every statement about a memory cell is
under the canonical form of memory (`Memory.wf`), which `StepKeepsInvariant` and `ResetMeetsInvariant` establish. -/

open Sys2Proof Sys2Proof.Machine

/-! ## 8-bit loads and stores (41_load8.md) -/

/-- R170 to R173: LD r,r' copies the second register, LD r,d8 takes the operand byte, LD r,(HL) reads the byte at the address
HL holds before the register is written; nothing else changes. -/
def Obligations.LoadIntoRegister : Prop :=
  ∀ d : Reg8,
    (∀ r : Reg8, Form (Instr.ldReg d r) [opByte 1 d.code r.code] 1) ∧
    (∀ n : Byte, Form (Instr.ldImm (.reg d) n) [opByte 0 d.code 6, n] 2) ∧
    Form (Instr.ldFromHL d) [opByte 1 d.code 6] 2 ∧
    ∀ (s : State) (r : Reg8) (n : Byte),
      ∀ p ∈ [(Instr.ldReg d r, s.r8 r), (Instr.ldImm (.reg d) n, n), (Instr.ldFromHL d, (s.busRead s.hl).1)],
        ∃ t, exec p.1 s = .next t ∧ t.r8 d = p.2 ∧ (∀ q, q ≠ d → t.r8 q = s.r8 q) ∧ SameFSpPc s t ∧ QuietFrame s t

/-- R170, R174, R175: LD (HL),r and LD (HL),d8 store one byte at HL. -/
def Obligations.StoreAtHL : Prop :=
  (∀ r : Reg8, Form (Instr.ldToHL r) [opByte 1 6 r.code] 2 ∧
    ∀ s : State, s.mem.wf = true → ∃ t, exec (Instr.ldToHL r) s = .next t ∧
      t.regs = s.regs ∧ StoreFrame s s.hl (s.r8 r) t) ∧
  (∀ n : Byte, Form (.LD__HL__d8 n) [0x36, n] 3 ∧
    ∀ s : State, s.mem.wf = true → ∃ t, exec (.LD__HL__d8 n) s = .next t ∧
      t.regs = s.regs ∧ StoreFrame s s.hl n t)

/-- R170, R176, R177, R180, R182, R184: the loads of A from (BC), (DE), (a16), (a8) and (C). -/
def Obligations.LoadAccumulator : Prop :=
  ∀ (nn : Word) (a : Byte),
    (Form .LD_A__BC [0x0A] 2 ∧ Form .LD_A__DE [0x1A] 2 ∧ Form (.LD_A__a16 nn) [0xFA, loByte nn, hiByte nn] 4 ∧
      Form (.LDH_A__a8 a) [0xF0, a] 3 ∧ Form .LD_A__C [0xF2] 2) ∧
    ∀ s : State, ∀ p ∈ [(Instr.LD_A__BC, s.bc), (.LD_A__DE, s.de), (.LD_A__a16 nn, nn),
        (.LDH_A__a8 a, 0xFF00 + a.zeroExtend 16), (.LD_A__C, 0xFF00 + s.regs.c.zeroExtend 16)],
      ∃ t, exec p.1 s = .next t ∧ t.regs = { s.regs with a := (s.busRead p.2).1 } ∧ QuietFrame s t

/-- R170, R178, R179, R181, R183, R185: the stores of A to (BC), (DE), (a16), (a8) and (C). -/
def Obligations.StoreAccumulator : Prop :=
  ∀ (nn : Word) (a : Byte),
    (Form .LD__BC__A [0x02] 2 ∧ Form .LD__DE__A [0x12] 2 ∧ Form (.LD__a16__A nn) [0xEA, loByte nn, hiByte nn] 4 ∧
      Form (.LDH__a8__A a) [0xE0, a] 3 ∧ Form .LD__C__A [0xE2] 2) ∧
    ∀ s : State, s.mem.wf = true → ∀ p ∈ [(Instr.LD__BC__A, s.bc), (.LD__DE__A, s.de), (.LD__a16__A nn, nn),
        (.LDH__a8__A a, 0xFF00 + a.zeroExtend 16), (.LD__C__A, 0xFF00 + s.regs.c.zeroExtend 16)],
      ∃ t, exec p.1 s = .next t ∧ t.regs = s.regs ∧ StoreFrame s p.2 s.regs.a t

/-- R156, R186 to R189: LD (HL+),A, LD (HL-),A, LD A,(HL+), LD A,(HL-): the OAM check on HL, the store or load at HL, then
HL stepped modulo 65536. That a check that fires replaces OAM before the access is the model's choice (assumption 26). -/
def Obligations.AccumulatorAndStepHL : Prop :=
  Form .LD__HLI__A [0x22] 2 ∧ Form .LD__HLD__A [0x32] 2 ∧ Form .LD_A__HLI [0x2A] 2 ∧ Form .LD_A__HLD [0x3A] 2 ∧
  ∀ s : State, s.mem.wf = true →
    (∀ p ∈ [(Instr.LD__HLI__A, s.hl + 1), (.LD__HLD__A, s.hl - 1)], ∃ t, exec p.1 s = .next t ∧
      t.regs = { s.regs with h := hiByte p.2, l := loByte p.2 } ∧
      SameInternal s t ∧ SameReach ((s.oamCheck .ldHl s.hl).busWrite s.hl s.regs.a) t ∧
      t.ic = (s.busWrite s.hl s.regs.a).ic.instructionFinished ∧
      (∀ k, s.storeCell s.hl = some k → t.mem.read k = s.regs.a) ∧
      ∀ k, s.storeCell s.hl ≠ some k → OamKept s s.hl k → t.mem.read k = s.mem.read k) ∧
    ∀ p ∈ [(Instr.LD_A__HLI, s.hl + 1), (.LD_A__HLD, s.hl - 1)], ∃ t, exec p.1 s = .next t ∧
      t.regs = { s.regs with a := ((s.oamCheck .ldHl s.hl).busRead s.hl).1, h := hiByte p.2, l := loByte p.2 } ∧
      CheckFrame s .ldHl s.hl t

/-! ## 16-bit loads and the stack (42_load16.md) -/

/-- R201, R203: LD rr,d16 and LD SP,HL. -/
def Obligations.LoadPair : Prop :=
  (∀ (r : Reg16) (nn : Word), Form (Instr.ldImm16 r nn) [opByte 0 (2 * r.code) 1, loByte nn, hiByte nn] 3 ∧
    ∀ s : State, ∃ t, exec (Instr.ldImm16 r nn) s = .next t ∧
      t.r16 r = nn ∧ (∀ q, q ≠ r → t.r16 q = s.r16 q) ∧
      t.regs.a = s.regs.a ∧ t.regs.f = s.regs.f ∧ t.regs.pc = s.regs.pc ∧ QuietFrame s t) ∧
  Form .LD_SP_HL [0xF9] 2 ∧
  ∀ s : State, ∃ t, exec .LD_SP_HL s = .next t ∧ t.regs = { s.regs with sp := s.hl } ∧ QuietFrame s t

/-- R63, R202: LD (a16),SP stores SP's low byte at a16 and its high byte at a16 + 1, and nothing else. -/
def Obligations.StoreStackPointer : Prop :=
  ∀ nn : Word, Form (.LD__a16__SP nn) [0x08, loByte nn, hiByte nn] 5 ∧
    ∀ s : State, s.mem.wf = true → ∃ t, exec (.LD__a16__SP nn) s = .next t ∧ t.regs = s.regs ∧
      let u := s.busWrite nn (loByte s.regs.sp)
      let w := u.busWrite (nn + 1) (hiByte s.regs.sp)
      SameInternal s t ∧ SameReach w t ∧ t.ic = w.ic.instructionFinished ∧
      ∀ k, t.mem.read k = if u.storeCell (nn + 1) = some k then hiByte s.regs.sp
        else if s.storeCell nn = some k then loByte s.regs.sp else s.mem.read k

/-- R204, R263: LD HL,SP+r8 and ADD SP,r8: the signed sum, Z and N clear, H and C from the unsigned sum of SP's low byte
and the operand byte. -/
def Obligations.StackPointerPlusOffset : Prop :=
  ∀ e : Byte, Form (.LD_HL_SP_r8 e) [0xF8, e] 3 ∧ Form (.ADD_SP_r8 e) [0xE8, e] 4 ∧
    ∀ s : State,
      let v : Word := if e.toNat < 128 then s.regs.sp + BitVec.ofNat 16 e.toNat
        else s.regs.sp + BitVec.ofNat 16 (e.toNat + 0xFF00)
      let h := decide (s.regs.sp.toNat % 16 + e.toNat % 16 > 0x0F)
      let c := decide (s.regs.sp.toNat % 256 + e.toNat > 0xFF)
      (∃ t, exec (.LD_HL_SP_r8 e) s = .next t ∧
        t.regs = { s.regs with h := hiByte v, l := loByte v, f := t.regs.f } ∧
        FlagsAre t.regs.f false false h c ∧ QuietFrame s t) ∧
      ∃ t, exec (.ADD_SP_r8 e) s = .next t ∧
        t.regs = { s.regs with sp := v, f := t.regs.f } ∧ FlagsAre t.regs.f false false h c ∧ QuietFrame s t

/-- R66, R205: PUSH rr stores the pair at SP-1 (high byte) and SP-2 (low byte), with the checks Push1 and Push2, each of which
replaces OAM, where it fires, before the store after it (assumption 26). -/
def Obligations.PushPair : Prop :=
  ∀ r : StackPair, Form (Instr.push r) [opByte 3 (2 * r.code) 5] 4 ∧
    ∀ s : State, s.mem.wf = true → ∃ t, exec (Instr.push r) s = .next t ∧
      t.regs = { s.regs with sp := s.regs.sp - 2 } ∧ PushFrame s (s.pair r) t

/-- R23, R67, R206: POP rr loads the pair from the two bus reads at SP (low byte) and SP+1 (high byte), each after its
check, which replaces OAM first where it fires (assumption 26); POP AF keeps F's low nibble 0. -/
def Obligations.PopPair : Prop :=
  ∀ r : StackPair, Form (Instr.pop r) [opByte 3 (2 * r.code) 1] 3 ∧
    ∀ s : State, s.mem.wf = true → ∃ t, exec (Instr.pop r) s = .next t ∧
      let v := (popReads s).1
      t.regs = (match r with
        | .BC => { s.regs with b := hiByte v, c := loByte v, sp := s.regs.sp + 2 }
        | .DE => { s.regs with d := hiByte v, e := loByte v, sp := s.regs.sp + 2 }
        | .HL => { s.regs with h := hiByte v, l := loByte v, sp := s.regs.sp + 2 }
        | .AF => { s.regs with a := hiByte v, f := loByte v &&& 0xF0, sp := s.regs.sp + 2 }) ∧
      PopFrame s t ∧ t.ic = s.ic.instructionFinished

/-- R66, R67, R69: where both bytes land in memory cells of their own and no OAM check fires, popping what was pushed gives
it back, restores SP, and the low byte lies at the lower address. -/
def Obligations.PopAfterPush : Prop :=
  ∀ (s : State) (v : Word) (a b : Nat), s.mem.wf = true → s.oamWindow = false →
    s.storeCell (s.regs.sp - 1) = some a → s.storeCell (s.regs.sp - 2) = some b → a ≠ b →
    (s.push16 v).pop16.1 = v ∧ (s.push16 v).pop16.2.regs = s.regs ∧
      (s.push16 v).mem.read b = loByte v ∧ (s.push16 v).mem.read a = hiByte v

/-! ## 8-bit arithmetic and logic (43_alu8.md) -/

/-- R220: the three operand forms of the eight operations on A are encoded, timed and read as the table says: the value is
the register's, the byte at (HL), or d8, and the outcome is that of the same operation on that value. -/
def Obligations.AluOperandForms : Prop :=
  (∀ (op : AluOp) (x : Operand8), Form (Instr.alu op x) [opByte 2 op.code x.code] (if x = .atHL then 2 else 1)) ∧
  (∀ (op : AluOp) (n : Byte), Form (Instr.aluImm op n) [opByte 3 op.code 6, n] 2) ∧
  ∀ (op : AluOp) (s : State),
    (∀ r : Reg8, exec (Instr.alu op (.reg r)) s = exec (Instr.aluImm op (s.r8 r)) s) ∧
    exec (Instr.alu op .atHL) s = exec (Instr.aluImm op (s.busRead s.hl).1) (s.busRead s.hl).2

/-- R221, R222: ADD A,x and ADC A,x in every operand form: the sum modulo 256, Z, N clear, H and C the carries out of
bits 3 and 7, the carry in taking part in both. The opcodes are the rules'. -/
def Obligations.AddWithCarry : Prop :=
  ∀ s : State, ∀ p ∈ [(AluOp.add, 0), (AluOp.adc, (flagC s.regs.f).toNat)],
    let result := fun (v : Byte) (t : State) =>
      let sum := s.regs.a.toNat + v.toNat + p.2
      t.regs = { s.regs with a := BitVec.ofNat 8 sum, f := t.regs.f } ∧
      FlagsAre t.regs.f (decide (sum % 256 = 0)) false (decide (s.regs.a.toNat % 16 + v.toNat % 16 + p.2 > 0x0F))
        (decide (sum > 0xFF)) ∧
      QuietFrame s t
    (∀ x : Operand8, decode [opByte 2 p.1.code x.code] = .ok (Instr.alu p.1 x, [])) ∧
    (∀ n : Byte, decode [opByte 3 p.1.code 6, n] = .ok (Instr.aluImm p.1 n, [])) ∧
    (∀ r : Reg8, ∃ t, exec (Instr.alu p.1 (.reg r)) s = .next t ∧ result (s.r8 r) t) ∧
    (∃ t, exec (Instr.alu p.1 .atHL) s = .next t ∧ result (s.busRead s.hl).1 t) ∧
    ∀ n : Byte, ∃ t, exec (Instr.aluImm p.1 n) s = .next t ∧ result n t

/-- R223, R224, R228: SUB, SBC and CP in every operand form: the difference modulo 256 (CP leaves A), Z, N set, H and C the
borrows, the borrow in taking part in both. -/
def Obligations.SubtractAndCompare : Prop :=
  ∀ s : State, ∀ p ∈ [(AluOp.sub, (0 : Int)), (AluOp.sbc, ((flagC s.regs.f).toNat : Int)), (AluOp.cp, 0)],
    let result := fun (v : Byte) (t : State) =>
      let d := (s.regs.a.toNat : Int) - v.toNat - p.2
      t.regs = { s.regs with a := if p.1 = .cp then s.regs.a else BitVec.ofInt 8 d, f := t.regs.f } ∧
      FlagsAre t.regs.f (decide (d % 256 = 0)) true
        (decide ((s.regs.a.toNat % 16 : Int) < (v.toNat % 16 : Int) + p.2)) (decide (d < 0)) ∧
      QuietFrame s t
    (∀ x : Operand8, decode [opByte 2 p.1.code x.code] = .ok (Instr.alu p.1 x, [])) ∧
    (∀ n : Byte, decode [opByte 3 p.1.code 6, n] = .ok (Instr.aluImm p.1 n, [])) ∧
    (∀ r : Reg8, ∃ t, exec (Instr.alu p.1 (.reg r)) s = .next t ∧ result (s.r8 r) t) ∧
    (∃ t, exec (Instr.alu p.1 .atHL) s = .next t ∧ result (s.busRead s.hl).1 t) ∧
    ∀ n : Byte, ∃ t, exec (Instr.aluImm p.1 n) s = .next t ∧ result n t

/-- R225, R226, R227: AND, XOR and OR in every operand form, bit by bit, with H set by AND only and C and N clear. -/
def Obligations.BitwiseLogic : Prop :=
  ∀ s : State, ∀ p ∈ [(AluOp.and, Bool.and, true), (AluOp.xor, Bool.xor, false), (AluOp.or, Bool.or, false)],
    let result := fun (v : Byte) (t : State) =>
      (∀ i, i < 8 → t.regs.a.getLsbD i = p.2.1 (s.regs.a.getLsbD i) (v.getLsbD i)) ∧
      t.regs = { s.regs with a := t.regs.a, f := t.regs.f } ∧
      FlagsAre t.regs.f (decide (t.regs.a = 0)) false p.2.2 false ∧ QuietFrame s t
    (∀ x : Operand8, decode [opByte 2 p.1.code x.code] = .ok (Instr.alu p.1 x, [])) ∧
    (∀ n : Byte, decode [opByte 3 p.1.code 6, n] = .ok (Instr.aluImm p.1 n, [])) ∧
    (∀ r : Reg8, ∃ t, exec (Instr.alu p.1 (.reg r)) s = .next t ∧ result (s.r8 r) t) ∧
    (∃ t, exec (Instr.alu p.1 .atHL) s = .next t ∧ result (s.busRead s.hl).1 t) ∧
    ∀ n : Byte, ∃ t, exec (Instr.aluImm p.1 n) s = .next t ∧ result n t

/-- R229 to R232: INC and DEC of a register or of the byte at (HL): the result modulo 256, Z and H from it, N says which,
C kept; the (HL) form makes one read and one write at HL. -/
def Obligations.IncrementDecrement : Prop :=
  (∀ x : Operand8, Form (Instr.inc8 x) [opByte 0 x.code 4] (if x = .atHL then 3 else 1) ∧
    Form (Instr.dec8 x) [opByte 0 x.code 5] (if x = .atHL then 3 else 1)) ∧
  ∀ s : State,
    let flags := fun (old : Byte) (inc : Bool) (f : Byte) =>
      if inc then FlagsAre f (decide (old + 1 = 0)) false (decide (old.toNat % 16 = 0xF)) (flagC s.regs.f)
      else FlagsAre f (decide (old - 1 = 0)) true (decide (old.toNat % 16 = 0)) (flagC s.regs.f)
    let new := fun (old : Byte) (inc : Bool) => if inc then old + 1 else old - 1
    ∀ inc : Bool,
      let i := fun x => if inc then Instr.inc8 x else Instr.dec8 x
      (∀ r : Reg8, ∃ t, exec (i (.reg r)) s = .next t ∧ t.r8 r = new (s.r8 r) inc ∧ (∀ q, q ≠ r → t.r8 q = s.r8 q) ∧
        flags (s.r8 r) inc t.regs.f ∧ t.regs.sp = s.regs.sp ∧ t.regs.pc = s.regs.pc ∧ QuietFrame s t) ∧
      (s.mem.wf = true → ∃ t, exec (i .atHL) s = .next t ∧ t.regs = { s.regs with f := t.regs.f } ∧
        flags (s.busRead s.hl).1 inc t.regs.f ∧ StoreFrame s s.hl (new (s.busRead s.hl).1 inc) t)

/-- R233: DAA on A and the flags, as its pseudocode says. -/
def Obligations.DecimalAdjust : Prop :=
  Form .DAA [0x27] 1 ∧
  ∀ s : State,
    let a := s.regs.a.toNat
    let n := flagN s.regs.f
    let low := flagH s.regs.f || (!n && decide (a % 16 > 9))
    let high := flagC s.regs.f || (!n && decide (a > 0x99))
    let corr := (if low then 0x06 else 0) + (if high then 0x60 else 0)
    ∃ t, exec .DAA s = .next t ∧
      t.regs.a = (if n then BitVec.ofNat 8 (a + 256 - corr) else BitVec.ofNat 8 (a + corr)) ∧
      t.regs = { s.regs with a := t.regs.a, f := t.regs.f } ∧
      FlagsAre t.regs.f (decide (t.regs.a = 0)) n false high ∧ QuietFrame s t

/-- R233, "Property from the document": after ADD, ADC, SUB or SBC of two valid packed-BCD bytes, DAA leaves the packed-BCD
byte of the decimal result modulo 100, with C the decimal carry or borrow. -/
def Obligations.DecimalAdjustGivesBcd : Prop :=
  ∀ (s : State) (op : AluOp) (n : Byte), op ∈ [AluOp.add, .adc, .sub, .sbc] →
    let dec := fun x : Byte => 10 * (x.toNat / 16) + x.toNat % 16
    let valid := fun x : Byte => x.toNat % 16 ≤ 9 ∧ x.toNat / 16 ≤ 9
    let c := if op = .adc ∨ op = .sbc then (flagC s.regs.f).toNat else 0
    valid s.regs.a → valid n →
    ∃ t u, exec (Instr.aluImm op n) s = .next t ∧ exec .DAA t = .next u ∧ valid u.regs.a ∧ flagH u.regs.f = false ∧
      (if op = .add ∨ op = .adc then
        dec u.regs.a = (dec s.regs.a + dec n + c) % 100 ∧ flagC u.regs.f = decide (dec s.regs.a + dec n + c > 99)
      else
        dec u.regs.a = (dec s.regs.a + 200 - dec n - c) % 100 ∧ flagC u.regs.f = decide (dec s.regs.a < dec n + c))

/-- R234, R235, R236: CPL, SCF and CCF. -/
def Obligations.ComplementAndCarryFlag : Prop :=
  Form .CPL [0x2F] 1 ∧ Form .SCF [0x37] 1 ∧ Form .CCF [0x3F] 1 ∧
  ∀ s : State,
    let z := flagZ s.regs.f
    let c := flagC s.regs.f
    (∃ t, exec .CPL s = .next t ∧ t.regs = { s.regs with a := t.regs.a, f := t.regs.f } ∧
      (∀ i, i < 8 → t.regs.a.getLsbD i = !s.regs.a.getLsbD i) ∧ FlagsAre t.regs.f z true true c ∧ QuietFrame s t) ∧
    (∃ t, exec .SCF s = .next t ∧ t.regs = { s.regs with f := t.regs.f } ∧
      FlagsAre t.regs.f z false false true ∧ QuietFrame s t) ∧
    ∃ t, exec .CCF s = .next t ∧ t.regs = { s.regs with f := t.regs.f } ∧
      FlagsAre t.regs.f z false false (!c) ∧ QuietFrame s t

/-! ## 16-bit arithmetic (44_alu16.md) -/

/-- R260: ADD HL,rr: the sum modulo 65536, H and C the carries out of bits 11 and 15, N clear, Z kept. -/
def Obligations.AddPair : Prop :=
  ∀ r : Reg16, Form (Instr.addHL r) [opByte 0 (2 * r.code + 1) 1] 2 ∧
    ∀ s : State,
      let sum := s.hl.toNat + (s.r16 r).toNat
      ∃ t, exec (Instr.addHL r) s = .next t ∧
        t.regs = { s.regs with h := hiByte (BitVec.ofNat 16 sum), l := loByte (BitVec.ofNat 16 sum), f := t.regs.f } ∧
        FlagsAre t.regs.f (flagZ s.regs.f) false
          (decide (s.hl.toNat % 0x1000 + (s.r16 r).toNat % 0x1000 > 0x0FFF)) (decide (sum > 0xFFFF)) ∧
        QuietFrame s t

/-- R156, R261, R262: INC rr and DEC rr: the OAM check on the old value, the pair stepped modulo 65536, no flag written. -/
def Obligations.StepPair : Prop :=
  ∀ r : Reg16, Form (Instr.inc16 r) [opByte 0 (2 * r.code) 3] 2 ∧ Form (Instr.dec16 r) [opByte 0 (2 * r.code + 1) 3] 2 ∧
    ∀ s : State, s.mem.wf = true → ∀ p ∈ [(Instr.inc16 r, s.r16 r + 1), (Instr.dec16 r, s.r16 r - 1)],
      ∃ t, exec p.1 s = .next t ∧ t.r16 r = p.2 ∧ (∀ q, q ≠ r → t.r16 q = s.r16 q) ∧
        t.regs.a = s.regs.a ∧ t.regs.f = s.regs.f ∧ t.regs.pc = s.regs.pc ∧ CheckFrame s .incDec (s.r16 r) t

/-! ## Rotates, shifts and bits (45_rotate_shift_bit.md) -/

/-- R270 to R274: RLCA, RRCA, RLA, RRA: bit by bit, C the bit rotated out, Z, N and H clear. -/
def Obligations.RotateAccumulator : Prop :=
  Form .RLCA [0x07] 1 ∧ Form .RRCA [0x0F] 1 ∧ Form .RLA [0x17] 1 ∧ Form .RRA [0x1F] 1 ∧
  ∀ s : State,
    let a := s.regs.a
    (∀ p ∈ [(Instr.RLCA, a.getLsbD 7), (.RLA, flagC s.regs.f)], ∃ t, exec p.1 s = .next t ∧
      (∀ i, i < 8 → t.regs.a.getLsbD i = if i = 0 then p.2 else a.getLsbD (i - 1)) ∧
      t.regs = { s.regs with a := t.regs.a, f := t.regs.f } ∧
      FlagsAre t.regs.f false false false (a.getLsbD 7) ∧ QuietFrame s t) ∧
    ∀ p ∈ [(Instr.RRCA, a.getLsbD 0), (.RRA, flagC s.regs.f)], ∃ t, exec p.1 s = .next t ∧
      (∀ i, i < 8 → t.regs.a.getLsbD i = if i = 7 then p.2 else a.getLsbD (i + 1)) ∧
      t.regs = { s.regs with a := t.regs.a, f := t.regs.f } ∧
      FlagsAre t.regs.f false false false (a.getLsbD 0) ∧ QuietFrame s t

/-- R275 to R283: the CB rotates, shifts and swaps, bit by bit, on a register or on the byte at (HL), which is always written
back. -/
def Obligations.RotateOperand : Prop :=
  (∀ (op : RotOp) (x : Operand8),
    Form (Instr.rot op x) [0xCB, opByte 0 op.code x.code] (if x = .atHL then 4 else 2)) ∧
  ∀ (op : RotOp) (s : State),
    (∀ r : Reg8, ∃ t out, exec (Instr.rot op (.reg r)) s = .next t ∧
      RotatesTo op (flagC s.regs.f) (s.r8 r) (t.r8 r) out ∧ (∀ q, q ≠ r → t.r8 q = s.r8 q) ∧
      FlagsAre t.regs.f (decide (t.r8 r = 0)) false false out ∧
      t.regs.sp = s.regs.sp ∧ t.regs.pc = s.regs.pc ∧ QuietFrame s t) ∧
    (s.mem.wf = true → ∃ t v out, exec (Instr.rot op .atHL) s = .next t ∧
      RotatesTo op (flagC s.regs.f) (s.busRead s.hl).1 v out ∧
      t.regs = { s.regs with f := t.regs.f } ∧ FlagsAre t.regs.f (decide (v = 0)) false false out ∧
      StoreFrame s s.hl v t)

/-- R275, R284: BIT b,x: Z is the complement of the tested bit, N clear, H set, C kept, nothing written back. -/
def Obligations.TestBit : Prop :=
  ∀ (b : Fin 8) (x : Operand8), Form (Instr.bitOp b x) [0xCB, opByte 1 b.val x.code] (if x = .atHL then 3 else 2) ∧
    ∀ s : State,
      let v := match x with | .reg r => s.r8 r | .atHL => (s.busRead s.hl).1
      ∃ t, exec (Instr.bitOp b x) s = .next t ∧ t.regs = { s.regs with f := t.regs.f } ∧
        FlagsAre t.regs.f (!v.getLsbD b.val) false true (flagC s.regs.f) ∧ QuietFrame s t

/-- R275, R285, R286: RES b,x and SET b,x on a register or on the byte at (HL), written back even when it does not change: the
one bit, no flag. -/
def Obligations.ChangeBit : Prop :=
  ∀ b : Fin 8,
    (∀ x : Operand8, Form (Instr.resOp b x) [0xCB, opByte 2 b.val x.code] (if x = .atHL then 4 else 2) ∧
      Form (Instr.setOp b x) [0xCB, opByte 3 b.val x.code] (if x = .atHL then 4 else 2)) ∧
    ∀ (s : State) (set : Bool),
      let i := fun x => if set then Instr.setOp b x else Instr.resOp b x
      (∀ r : Reg8, ∃ t, exec (i (.reg r)) s = .next t ∧
        (∀ j, j < 8 → (t.r8 r).getLsbD j = if j = b.val then set else (s.r8 r).getLsbD j) ∧
        (∀ q, q ≠ r → t.r8 q = s.r8 q) ∧ SameFSpPc s t ∧ QuietFrame s t) ∧
      (s.mem.wf = true → ∃ t v, exec (i .atHL) s = .next t ∧
        (∀ j, j < 8 → v.getLsbD j = if j = b.val then set else (s.busRead s.hl).1.getLsbD j) ∧
        t.regs = s.regs ∧ StoreFrame s s.hl v t)

/-! ## Control transfer (46_control.md) -/

/-- R301, R302, R303: JP a16, JP cc,a16 and JP (HL); a condition that fails leaves pc at the next instruction. -/
def Obligations.Jump : Prop :=
  ∀ (nn : Word) (cc : Cond),
    Form (.JP_a16 nn) [0xC3, loByte nn, hiByte nn] 4 ∧ Form .JP__HL [0xE9] 1 ∧
    CondForm (Instr.jpCond cc nn) cc [opByte 3 cc.code 2, loByte nn, hiByte nn] 4 3 ∧
    ∀ s : State, ∀ p ∈ [(Instr.JP_a16 nn, nn), (.JP__HL, s.hl),
        (Instr.jpCond cc nn, if s.cond cc then nn else s.regs.pc)],
      ∃ t, exec p.1 s = .next t ∧ t.regs = { s.regs with pc := p.2 } ∧ QuietFrame s t

/-- R304, R305: JR r8 and JR cc,r8: pc plus the sign-extended byte, modulo 65536. -/
def Obligations.JumpRelative : Prop :=
  ∀ (e : Byte) (cc : Cond), Form (.JR_r8 e) [0x18, e] 3 ∧
    CondForm (Instr.jrCond cc e) cc [opByte 0 (4 + cc.code) 0, e] 3 2 ∧
    ∀ s : State,
      let target := s.regs.pc + BitVec.ofNat 16 (if e.toNat < 128 then e.toNat else e.toNat + 0xFF00)
      ∀ p ∈ [(Instr.JR_r8 e, target), (Instr.jrCond cc e, if s.cond cc then target else s.regs.pc)],
        ∃ t, exec p.1 s = .next t ∧ t.regs = { s.regs with pc := p.2 } ∧ QuietFrame s t

/-- R306, R307, R311: CALL a16, CALL cc,a16 taken, and RST t: push the address of the next instruction, then jump. When a
check that fires replaces OAM is assumption 26's. -/
def Obligations.CallAndRestart : Prop :=
  ∀ (nn : Word) (cc : Cond) (n : Fin 8),
    Form (.CALL_a16 nn) [0xCD, loByte nn, hiByte nn] 6 ∧ Form (Instr.rst n) [opByte 3 n.val 7] 4 ∧
    CondForm (Instr.callCond cc nn) cc [opByte 3 cc.code 4, loByte nn, hiByte nn] 6 3 ∧
    ∀ s : State, s.mem.wf = true →
      (∀ p ∈ [(Instr.CALL_a16 nn, nn), (Instr.rst n, BitVec.ofNat 16 (8 * n.val))],
        ∃ t, exec p.1 s = .next t ∧ t.regs = { s.regs with sp := s.regs.sp - 2, pc := p.2 } ∧
          PushFrame s s.regs.pc t) ∧
      (s.cond cc = true → ∃ t, exec (Instr.callCond cc nn) s = .next t ∧
        t.regs = { s.regs with sp := s.regs.sp - 2, pc := nn } ∧ PushFrame s s.regs.pc t) ∧
      (s.cond cc = false → ∃ t, exec (Instr.callCond cc nn) s = .next t ∧ t.regs = s.regs ∧ QuietFrame s t)

/-- R308, R309, R310: RET, RET cc and RETI: pc is the two bytes read at SP (low) and SP+1 (high), each after its check, which
replaces OAM first where it fires (assumption 26); RETI also sets IME at once and clears both delay counters. -/
def Obligations.Return : Prop :=
  ∀ cc : Cond, Form .RET [0xC9] 4 ∧ Form .RETI [0xD9] 4 ∧ CondForm (Instr.retCond cc) cc [opByte 3 cc.code 0] 5 2 ∧
    ∀ s : State, s.mem.wf = true →
      let popped := { s.regs with sp := s.regs.sp + 2, pc := (popReads s).1 }
      (∃ t, exec .RET s = .next t ∧ t.regs = popped ∧ PopFrame s t ∧ t.ic = s.ic.instructionFinished) ∧
      (s.cond cc = true → ∃ t, exec (Instr.retCond cc) s = .next t ∧ t.regs = popped ∧ PopFrame s t ∧
        t.ic = s.ic.instructionFinished) ∧
      (s.cond cc = false → ∃ t, exec (Instr.retCond cc) s = .next t ∧ t.regs = s.regs ∧ QuietFrame s t) ∧
      ∃ t, exec .RETI s = .next t ∧ t.regs = popped ∧ PopFrame s t ∧
        t.ic = { s.ic with ime := true, pendingEnable := none, pendingDisable := none }

/-! ## System instructions (47_system.md) -/

/-- R116, R330, R331, R334, R372: NOP changes nothing but the delay counters. HALT: with IME = 0 and a request pending, the
halt bug; otherwise Halted. STOP: the armed CGB speed switch, else Stopped with the display disabled, whatever its second
byte. HALT and STOP do not step the delay counters. That the PPU's signal changes at once is the model's (assumption 17). -/
def Obligations.NoOperationHaltStop : Prop :=
  Form .NOP [0x00] 1 ∧ Form .HALT [0x76] 1 ∧ (∀ pad : Byte, Form (.STOP pad) [0x10, pad] 2) ∧
  ∀ s : State,
    (∃ t, exec .NOP s = .next t ∧ t.regs = s.regs ∧ QuietFrame s t) ∧
    (s.ic.ime = false ∧ s.ic.ifByte &&& s.ic.ie &&& 0x1F ≠ 0 →
      exec .HALT s = .next { s with phase := .opcode, haltBug := true }) ∧
    (¬(s.ic.ime = false ∧ s.ic.ifByte &&& s.ic.ie &&& 0x1F ≠ 0) → exec .HALT s = .next { s with phase := .halted }) ∧
    ∀ pad : Byte,
      (s.cfg.gbc = true ∧ s.prepareSwitch = true →
        ∃ t, exec (.STOP pad) s = .next t ∧ t.speed.multiplier = 3 - s.speed.multiplier ∧
          t = { s with speed := t.speed, prepareSwitch := false, phase := .opcode }) ∧
      (¬(s.cfg.gbc = true ∧ s.prepareSwitch = true) →
        exec (.STOP pad) s = .next { s with
          phase := .stopped, events := s.events ++ [.lcdDisable], ppu := { s.ppu with lcdEnabled := false } })

/-- R332, R333, R354, R355, R356: EI and DI: what they do to IME and the delay counters, the end of the instruction
included. -/
def Obligations.EnableDisableInterrupts : Prop :=
  Form .EI [0xFB] 1 ∧ Form .DI [0xF3] 1 ∧
  ∀ s : State,
    (∃ t, exec .EI s = .next t ∧ t.regs = s.regs ∧ SameInternal s t ∧ SameReach s t ∧ SameBytes s t ∧
      t.ic = { s.ic with
        ime := if s.ic.pendingEnable = some .zero then true else s.ic.ime
        pendingEnable := if s.ic.pendingEnable = some .zero then none else some .zero
        pendingDisable := none }) ∧
    ∃ t, exec .DI s = .next t ∧ t.regs = s.regs ∧ SameInternal s t ∧ SameReach s t ∧ SameBytes s t ∧
      t.ic = (if s.cfg.gbc = true ∧ s.cfg.diDelayCgb = true then
        { s.ic with
          ime := if s.ic.pendingDisable = some .zero then false else s.ic.ime
          pendingEnable := none
          pendingDisable := if s.ic.pendingDisable = some .zero then none else some .zero }
      else { s.ic with ime := false, pendingEnable := none, pendingDisable := none })

/-- R333, R354, R356, R410: after EI with no counter armed, IME is as before. The next instruction, if it ends through its
micro-ops (any but HALT, STOP and the CB byte alone), runs and ends with IME = 1 and no counter armed, or, if it is a DI
that is not delayed, with IME = 0. -/
def Obligations.EnableTakesEffectAfterNext : Prop :=
  ∀ (s t u : State) (i : Instr), s.ic.pendingEnable = none → s.ic.pendingDisable = none →
    i ∉ [Instr.HALT, .PREFIX_CB] → (∀ p, i ≠ .STOP p) → exec .EI s = .next t → exec i t = .next u →
    t.ic.ime = s.ic.ime ∧
    (i ≠ .DI → u.ic.ime = true ∧ u.ic.pendingEnable = none ∧ u.ic.pendingDisable = none) ∧
    (i = .DI → (s.cfg.gbc = false ∨ s.cfg.diDelayCgb = false) →
      u.ic.ime = false ∧ u.ic.pendingEnable = none ∧ u.ic.pendingDisable = none)

/-- R115, R135, R335: the CB byte alone has no effect of its own: the machine waits for the byte that indexes the CB table,
and the sub-step that fetches that byte turns the pair into the instruction of the CB table. That the pair is what a fetch
always gives is the model's own convention (assumption 11). -/
def Obligations.PrefixByte : Prop :=
  decode [0xCB] = .ok (.PREFIX_CB, []) ∧
  ∀ s : State,
    exec .PREFIX_CB s = .next { s with latch := { Latches.clear with opcode1 := 0xCB }, phase := .extOpcode } ∧
    ∀ b : Byte, decode [0xCB, b] = .ok (decodeCB b, []) ∧
      ((s.busRead s.regs.pc).1 = b → ∀ t, exec .PREFIX_CB s = .next t →
        (fetchSecond t).latch.current = some (.cb b) ∧ (fetchSecond t).regs.pc = s.regs.pc + 1)

/-- R113, R157, R337: the eleven undefined opcodes fault, with pc as the fetch left it. -/
def Obligations.UndefinedOpcodeFaults : Prop :=
  ∀ op : Byte, op ∈ ([0xD3, 0xDB, 0xDD, 0xE3, 0xE4, 0xEB, 0xEC, 0xED, 0xF4, 0xFC, 0xFD] : List Byte) →
    decode [op] = .ok (.UNDEFINED op, []) ∧
    ∀ s : State, exec (.UNDEFINED op) s = .fault (.undefinedOpcode op s.regs.pc)

/-! ## Whole-machine rules -/

/-- R120, R157, R357: every instruction but an undefined opcode completes in every state, and nothing else ever stops a
step: a step that faults has fetched one of the eleven bytes at an instruction boundary (as the bus answers it on the last tick
of the M-cycle, an OAM DMA in progress having had the ticks before). -/
def Obligations.OnlyUndefinedOpcodesStop : Prop :=
  (∀ (i : Instr) (s : State), (∀ op, i ≠ .UNDEFINED op) → ∃ t, exec i s = .next t) ∧
  ∀ s : State, s.phase.idle = true →
    (∃ t, step s = .next t) ∨
    ∃ op pc, step s = .fault (.undefinedOpcode op pc) ∧ undefinedOpcodes.contains op = true ∧
      op = ((s.dmaAdvance (s.speed.ticksPerCycle - 1)).busRead s.regs.pc).1 ∧
      pc = (if s.haltBug then s.regs.pc else s.regs.pc + 1)

/-- R28, last row: the instructions that write a flag are those of the table; every other one leaves F. -/
def Obligations.OtherInstructionsKeepFlags : Prop :=
  ∀ (b0 b1 b2 : Byte) (s t : State), exec (decodeBytes b0 b1 b2) s = .next t →
    (if b0 = 0xCB then fieldX b1 ≥ 2
      else fieldX b0 = 1 ∨ (fieldX b0 = 0 ∧ fieldZ b0 ∉ [4, 5, 7] ∧ ¬(fieldZ b0 = 1 ∧ fieldQ b0 = 1)) ∨
        (fieldX b0 = 3 ∧ fieldZ b0 ≠ 6 ∧ b0 ∉ ([0xE8, 0xF8, 0xF1] : List Byte))) →
    t.regs.f = s.regs.f

/-- R139, R153, R331, R334, R350: only HALT, STOP and the CB byte leave the state in which the next instruction is fetched;
only HALT sets the halt-bug flag; only STOP changes the speed; while no delay counter is at its end, only RETI and DI change
IME; no instruction touches the configuration, the divider, the boot ROM or the dispatch latches. -/
def Obligations.OnlySystemInstructionsChangeMode : Prop :=
  ∀ (i : Instr) (s t : State), exec i s = .next t →
    (i ∉ [Instr.HALT, .PREFIX_CB] → (∀ p, i ≠ .STOP p) → t.phase = s.phase) ∧
    (i ≠ .HALT → t.haltBug = s.haltBug) ∧ ((∀ p, i ≠ .STOP p) → t.speed = s.speed) ∧
    (i ∉ [Instr.RETI, .DI] → s.ic.pendingEnable ≠ some .zero → s.ic.pendingDisable ≠ some .zero →
      t.ic.ime = s.ic.ime) ∧
    t.cfg = s.cfg ∧ t.clockCycle = s.clockCycle ∧ t.bootRom = s.bootRom ∧ t.irq = s.irq

/-! ## The step, interrupts, waiting (40_execution_engine.md, 60_exceptions.md) -/

/-- R27, R103, R135 to R139, R148: at an instruction boundary with no interrupt accepted and no OAM DMA in progress, a step
fetches the opcode byte at pc and the operand bytes after it, and runs the instruction they decode to with pc past them. (An
instruction that starts a DMA, and the steps during one, are `StepDuringDma` and `StepIsTicks`.) -/
def Obligations.StepRunsDecodedInstruction : Prop :=
  ∀ s : State, s.phase = .opcode → s.ic.accepts = false → s.dma = none →
    ∃ (i : Instr) (b0 b1 b2 : Byte) (u : State), i = decodeBytes b0 b1 b2 ∧
      ((∀ t, exec i u = .next t → t.dma = none) → step s = exec i u) ∧
      b0 = (s.busRead s.regs.pc).1 ∧
      u.regs = { s.regs with
        pc := s.regs.pc + (if s.haltBug then 0 else 1) + BitVec.ofNat 16 (bytesAfter b0) } ∧
      u = { s with regs := u.regs, haltBug := false, draws := u.draws } ∧
      (1 ≤ bytesAfter b0 → ∃ v : State, v.regs = { s.regs with pc := s.regs.pc + (if s.haltBug then 0 else 1) } ∧
        v = { s with regs := v.regs, haltBug := false, draws := v.draws } ∧
        b1 = (v.busRead v.regs.pc).1) ∧
      (2 ≤ bytesAfter b0 → ∃ v : State, v.regs = { s.regs with pc := s.regs.pc + (if s.haltBug then 1 else 2) } ∧
        v = { s with regs := v.regs, haltBug := false, draws := v.draws } ∧
        b2 = (v.busRead v.regs.pc).1)

/-- R353, R362, R367: of the interrupts pending and enabled in the bytes a dispatch reads from IF and IE, the one of the
lowest ordinal is taken (VBlank, LCDC, Timer, Serial, Joypad), and none exactly when there is none; the others stay pending,
and no interrupt is accepted until IME is 1 again. -/
def Obligations.LowestOrdinalServed : Prop :=
  (∀ (f e : Byte) (i : Irq), selectIrq f e = some i ↔
    (f &&& e).getLsbD i.ordinal = true ∧ ∀ j : Irq, j.ordinal < i.ordinal → (f &&& e).getLsbD j.ordinal = false) ∧
  (∀ f e : Byte, selectIrq f e = none ↔ f &&& e &&& 0x1F = 0) ∧
  Irq.vblank.ordinal = 0 ∧ Irq.lcdc.ordinal = 1 ∧ Irq.timer.ordinal = 2 ∧ Irq.serial.ordinal = 3 ∧ Irq.joypad.ordinal = 4 ∧
  (∀ (s : State) (i : Irq), selectIrq s.irq.irqIF s.ic.ie = some i →
    (irqReadIE s).irq.requested = some i ∧ (irqReadIE s).ic.ime = false ∧
    ∀ j : Irq, j ≠ i → (irqReadIE s).ic.ifr.getLsbD j.ordinal = s.ic.ifr.getLsbD j.ordinal) ∧
  ∀ c : IntCtl, c.ime = false → c.accepts = false

/-- R132, R336, R360 to R366: an accepted interrupt is dispatched in one step: pc is pushed, IME and both delay counters
are cleared, the handler of the lowest pending and enabled ordinal runs next with no other register changed, and the machine
is at an instruction boundary. Where the pushed bytes land in memory cells, exactly the served IF bit is cleared, and no other
byte changes but in OAM, which an OAM DMA in progress may fill meanwhile. The PPU's signal is assumption 17's. -/
def Obligations.InterruptDispatch : Prop :=
  ∀ s : State, s.phase.idle = true → s.ic.accepts = true →
    ∃ (i : Irq) (t : State), step s = .next t ∧ selectIrq s.ic.ifByte s.ic.ie = some i ∧
      t.regs = { s.regs with sp := s.regs.sp - 2, pc := BitVec.ofNat 16 (0x40 + 8 * i.ordinal) } ∧ t.phase = .opcode ∧
      t.ic.ime = false ∧ t.ic.pendingEnable = none ∧ t.ic.pendingDisable = none ∧
      t.haltBug = s.haltBug ∧ t.speed = s.speed ∧ t.cfg = s.cfg ∧
      t.ppu.lcdEnabled = (if s.phase = .stopped then true else s.ppu.lcdEnabled) ∧
      (∀ a b, (acceptInterrupt s).oamWindow = false → s.mem.wf = true →
        s.storeCell (s.regs.sp - 1) = some a → s.storeCell (s.regs.sp - 2) = some b → a ≠ b →
        t.ic.ie = s.ic.ie ∧ t.ic.ifr = s.ic.ifr &&& ~~~((1 : BitVec 5) <<< i.ordinal) ∧
        ∀ k, s.dma = none ∨ k < 0xFE00 ∨ 0xFEA0 ≤ k →
          t.mem.read k = if k = a then hiByte s.regs.pc else if k = b then loByte s.regs.pc else s.mem.read k)

/-- R361, R362, R415: a dispatch latches IF, then IE, and takes the interrupt they select, clearing its IF bit and IME and
disarming both counters; with the spec's own decision D10, bytes without a common bit end the dispatch with nothing but the
latches changed. In the tick-level machine another agent's write of IE in the tick of the second read takes part in the
decision, one of IF no longer does; so the dispatch can find nothing (95_test_vectors.md S11). That such a write comes before
the CPU's sub-step of the same tick is the model's choice (assumption 22); R415 says only that it can change the decision. -/
def Obligations.DispatchSelects : Prop :=
  ∀ s : State,
    irqReadIF s = { s with irq := { s.irq with irqIF := s.ic.ifByte }, phase := .irqReadIE } ∧
    (s.busRead 0xFF0F).1 = s.ic.ifByte ∧ (s.busRead 0xFFFF).1 = s.ic.ie ∧
    (∀ i, selectIrq s.irq.irqIF s.ic.ie = some i →
      irqReadIE s = { s with
        irq := { s.irq with irqIE := s.ic.ie, requested := some i }
        ic := { s.ic with
          ime := false, pendingEnable := none, pendingDisable := none,
          ifr := s.ic.ifr &&& ~~~((1 : BitVec 5) <<< i.ordinal) }
        phase := .irqPush1 }) ∧
    (s.irq.irqIF &&& s.ic.ie &&& 0x1F = 0 →
      irqReadIE s = { s with irq := { s.irq with irqIE := s.ic.ie, requested := none }, phase := .opcode }) ∧
    ∀ inp : TickInput, s.phase = .irqReadIE → s.speed.ticksPerCycle ≤ s.clockCycle + 1 → inp.hdma = none →
      let ie := inp.writeIE.getD s.ic.ie
      (∀ i, selectIrq s.irq.irqIF ie = some i → ∃ t, tick inp s = .next t ∧
        t.phase = .irqPush1 ∧ t.irq = { irqIF := s.irq.irqIF, irqIE := ie, requested := some i } ∧ t.regs = s.regs ∧
        t.ic.ie = ie ∧ t.ic.ime = false ∧ t.ic.pendingEnable = none ∧ t.ic.pendingDisable = none) ∧
      (s.irq.irqIF &&& ie &&& 0x1F = 0 → ∃ t, tick inp s = .next t ∧
        t.phase = .opcode ∧ t.irq = { irqIF := s.irq.irqIF, irqIE := ie, requested := none } ∧ t.regs = s.regs ∧
        t.ic.ie = ie ∧ t.ic.ime = s.ic.ime ∧ t.ic.pendingEnable = s.ic.pendingEnable ∧
        t.ic.pendingDisable = s.ic.pendingDisable)

/-- R363, R364, R365: a dispatch pushes pc's high byte, then its low byte, each after its OAM check and after SP is
decremented, and jumps to the handler, whose first opcode the next sub-step fetches, IME being 0. The rules order the
check and the write; when the check replaces OAM is assumption 26's. -/
def Obligations.DispatchPushesAndJumps : Prop :=
  ∀ s : State,
    (let c := s.oamCheck .push1 s.regs.sp
     irqPush1 s = { (c.setSp (s.regs.sp - 1)).busWrite (s.regs.sp - 1) (hiByte s.regs.pc) with phase := .irqPush2 }) ∧
    (let c := s.oamCheck .push2 s.regs.sp
     irqPush2 s = { (c.setSp (s.regs.sp - 1)).busWrite (s.regs.sp - 1) (loByte s.regs.pc) with phase := .irqJump }) ∧
    ∀ i, s.irq.requested = some i →
      let t := irqJump s
      t = { s with
        regs := { s.regs with pc := i.handler }, irq := { s.irq with requested := none }, phase := .opcode } ∧
      (s.ic.ime = false → t.ic.accepts = false ∧ t.fetchOpcode.1 = (t.busRead i.handler).1 ∧
        (∀ u, fetchState t = .next u → substep t = engineLoop 15 true u) ∧
        ∀ e, fetchState t = .fault e → substep t = .fault e)

/-- R132, R133, R134, R153: waiting. In Halted without a request and in Stopped without an accepted interrupt a step changes
nothing (an OAM DMA in progress apart, for which one M-cycle passes); a request with IME = 0 ends Halted, not Stopped, and
the next instruction runs in the same step. -/
def Obligations.WaitingAndWaking : Prop :=
  ∀ s : State, s.ic.accepts = false →
    (s.phase = .halted → s.ic.requested = false → step s = .next (s.dmaAdvance s.speed.ticksPerCycle)) ∧
    (s.phase = .halted → s.ic.requested = true → step s = step { s with phase := .opcode }) ∧
    (s.phase = .stopped → step s = .next (s.dmaAdvance s.speed.ticksPerCycle)) ∧
    (s.dma = none → ∀ n, s.dmaAdvance n = s)

/-- R354, R355, R356: the interrupt controller's operations, whole. -/
def Obligations.EnableDelayCounters : Prop :=
  ∀ c : IntCtl,
    c.enableDelayed = { c with
      pendingDisable := none, pendingEnable := if c.pendingEnable = none then some .one else c.pendingEnable } ∧
    c.enableNow = { c with pendingEnable := none, pendingDisable := none, ime := true } ∧
    c.disableNow = { c with pendingEnable := none, pendingDisable := none, ime := false } ∧
    c.disableDelayed false = { c with pendingEnable := none, pendingDisable := none, ime := false } ∧
    c.disableDelayed true = { c with
      pendingEnable := none, pendingDisable := if c.pendingDisable = none then some .one else c.pendingDisable } ∧
    (c.pendingEnable = none → c.pendingDisable = none → c.instructionFinished = c) ∧
    (c.pendingEnable = some .one → c.pendingDisable = none →
      c.instructionFinished = { c with pendingEnable := some .zero }) ∧
    (c.pendingEnable = some .zero → c.instructionFinished =
      { c with ime := true, pendingEnable := none, pendingDisable := none }) ∧
    (c.pendingEnable = none → c.pendingDisable = some .one →
      c.instructionFinished = { c with pendingDisable := some .zero }) ∧
    (c.pendingEnable = none → c.pendingDisable = some .zero →
      c.instructionFinished = { c with ime := false, pendingDisable := none })

/-! ## The bus (20_memory.md) -/

/-- R68, R71 to R73, R75: the Game Boy's map, range by range: which cell an address is, the echo, ROM and the boot overlays,
void, OAM during a DMA, the bank registers of CGB. The model's choices among these: one ROM bank whose writes are ignored
(assumption 13, U7), stores through the echo (assumption 14), 0xFEA0 to 0xFEFF void (assumption 15), cartridge RAM as a
configuration (assumption 16), what the bank registers select and which cells the other banks are (assumption 25). -/
def Obligations.GameBoyMap : Prop :=
  ∀ (s : State) (a : Word) (v : Byte), s.cfg.bus = .gameBoy →
    let n := a.toNat
    let covered := s.bootMapped = true ∧ (n < 0x100 ∨ s.cfg.gbc = true ∧ 0x200 ≤ n ∧ n < 0x900)
    (n < 0x8000 → s.storeCell a = none ∧ s.busWrite a v = s ∧ s.busRead a =
      (if covered then s.bootRom.read n else s.mem.read n, s)) ∧
    (0x8000 ≤ n → n < 0xA000 → s.storeCell a = some (if s.cfg.gbc = true ∧ s.banks.vram = 1 then n + 0x8000 else n)) ∧
    (0xA000 ≤ n → n < 0xC000 → if s.cfg.cartRam then s.storeCell a = some n
      else (s.busRead a).1 = 0xFF ∧ s.busWrite a v = s) ∧
    (0xC000 ≤ n → n < 0xE000 → s.storeCell a = some (if s.cfg.gbc = true ∧ 0xD000 ≤ n ∧ 2 ≤ s.banks.wram.toNat
      then n + 0x3000 + 0x1000 * s.banks.wram.toNat else n)) ∧
    (0xE000 ≤ n → n < 0xFE00 → s.storeCell a = s.storeCell (a - 0x2000) ∧ (s.busRead a).1 = (s.busRead (a - 0x2000)).1) ∧
    (0xFE00 ≤ n → n < 0xFEA0 → if s.dma.isSome then (s.busRead a).1 = 0xFF ∧ s.busWrite a v = s
      else s.storeCell a = some n) ∧
    (0xFEA0 ≤ n → n < 0xFF00 → (s.busRead a).1 = 0xFF ∧ s.busWrite a v = s) ∧
    (0xFF80 ≤ n → n < 0xFFFF → s.storeCell a = some n) ∧
    s.busWrite 0xFF50 v = { s with bootMapped := false } ∧
    (s.cfg.gbc = true →
      s.busWrite 0xFF4F v = { s with
        banks := { s.banks with vram := v.extractLsb' 0 1 }, events := s.events ++ [.deviceWrite 0xFF4F v] } ∧
      s.busWrite 0xFF70 v = { s with
        banks := { s.banks with wram := v.extractLsb' 0 3 }, events := s.events ++ [.deviceWrite 0xFF70 v] } ∧
      (s.busRead 0xFF4F).1.extractLsb' 0 1 = s.banks.vram ∧ (s.busRead 0xFF70).1.extractLsb' 0 3 = s.banks.wram) ∧
    (s.cfg.gbc = false → ∀ r ∈ ([0xFF4F, 0xFF70] : List Word), (s.busRead r).1 = 0xFF ∧ s.busWrite r v = s)

/-- R29, R37, R351, R352, R381: the core-local registers: IE is plain storage, IF keeps bits 4..0 and reads
bits 7..5 as 1, KEY1 on CGB reads the speed in bit 7 and the prepare switch in bit 0, which alone can be written. On FlatBus
KEY1 answers as the conventions of 95_test_vectors.md have it, which R84 does not name (assumption 23). -/
def Obligations.CoreLocalRegisters : Prop :=
  ∀ (s : State) (v : Byte),
    ((s.busWrite 0xFFFF v).busRead 0xFFFF).1 = v ∧
    s.busWrite 0xFFFF v = { s with ic := { s.ic with ie := v } } ∧
    (∀ i, i < 8 → ((s.busWrite 0xFF0F v).busRead 0xFF0F).1.getLsbD i = (decide (5 ≤ i) || v.getLsbD i)) ∧
    s.busWrite 0xFF0F v = { s with ic := { s.ic with ifr := v.extractLsb' 0 5 } } ∧
    (s.cfg.gbc = true → s.busWrite 0xFF4D v = { s with prepareSwitch := v.getLsbD 0 } ∧
      (s.busRead 0xFF4D).1.getLsbD 7 = decide (s.speed = .double) ∧ (s.busRead 0xFF4D).1.getLsbD 0 = s.prepareSwitch) ∧
    (s.cfg.gbc = false → s.cfg.bus = .gameBoy → (s.busRead 0xFF4D).1 = 0xFF ∧ s.busWrite 0xFF4D v = s)

/-- R60, R77, R84 (KEY1 on FlatBus: assumption 23): a byte stored in a cell is what the next read of that address gives, and a store changes no other cell;
on FlatBus every address but IF, IE and (CGB) KEY1 is a cell of its own. -/
def Obligations.ReadAfterWrite : Prop :=
  (∀ (s : State) (a : Word) (v : Byte) (k : Nat), s.mem.wf = true → s.storeCell a = some k →
    ((s.busWrite a v).busRead a).1 = v ∧ (s.busWrite a v).mem.wf = true ∧
    ∀ j, j ≠ k → (s.busWrite a v).mem.read j = s.mem.read j) ∧
  ∀ (s : State) (a : Word), s.cfg.bus = .flat → a ≠ 0xFF0F → a ≠ 0xFFFF → (a ≠ 0xFF4D ∨ s.cfg.gbc = false) →
    s.storeCell a = some a.toNat

/-- R155, R156: OamCheck emits exactly when the register is in 0xFE00 to 0xFEFF, the bug is enabled, the LCD is on and the PPU
is in OAM search before tick 80; otherwise it does nothing; it never changes CPU state. -/
def Obligations.OamCheckTrigger : Prop :=
  ∀ (s : State) (ty : OamType) (v : Word),
    let fires := 0xFE00 ≤ v.toNat ∧ v.toNat ≤ 0xFEFF ∧ s.cfg.oamBugEnabled = true ∧ s.ppu.lcdEnabled = true ∧
      s.ppu.mode = .oamSearch ∧ s.ppu.lineTick < 80
    (fires → (s.oamCheck ty v).events = s.events ++ [.oamCorrupt ty]) ∧
    (¬fires → s.oamCheck ty v = s) ∧
    (s.oamCheck ty v).regs = s.regs ∧ (s.oamCheck ty v).ic = s.ic ∧ (s.oamCheck ty v).phase = s.phase ∧
    (s.mem.wf = true → ∀ k, k < 0xFE00 ∨ 0xFEA0 ≤ k → (s.oamCheck ty v).mem.read k = s.mem.read k)

/-- R75, R377 (with the model's reading of the source, assumption 20): a write of the source page opens a window of
648 / Speed ticks; the window closes by copying the 160 bytes of the page at once, each the byte the CPU's map has there
(0x2000 lower from 0xE000 on), and no byte outside OAM changes. -/
def Obligations.OamDmaWindow : Prop :=
  (∀ (s : State) (v : Byte), s.cfg.bus = .gameBoy →
    (s.busWrite 0xFF46 v).dma = some { page := v, ticksLeft := 648 / s.speed.multiplier }) ∧
  ∀ (s : State) (d : DmaTransfer) (n : Nat), s.dma = some d → s.mem.wf = true →
    (n < d.ticksLeft → s.dmaAdvance n = { s with dma := some { d with ticksLeft := d.ticksLeft - n } }) ∧
    (d.ticksLeft ≤ n → s.dmaAdvance n = { s with dma := none, mem := (s.dmaAdvance n).mem } ∧
      (s.dmaAdvance n).mem.wf = true ∧
      (∀ k, k < 0xFE00 ∨ 0xFEA0 ≤ k → (s.dmaAdvance n).mem.read k = s.mem.read k) ∧
      ∀ k, k < 160 → (s.dmaAdvance n).mem.read (0xFE00 + k) =
        (s.busRead (BitVec.ofNat 16 (d.page.toNat * 0x100 + k - if 0xE0 ≤ d.page.toNat then 0x2000 else 0))).1)

/-! ## Encoding (30_encoding.md) -/

/-- R101, R111, R112: opcode words, written out bit by bit from the tables, decode to the instructions they stand for. -/
def Obligations.SampleWordsDecode : Prop :=
  decode [0b01000001] = .ok (.LD_B_C, []) ∧ decode [0b00100001, 0x34, 0x12] = .ok (.LD_HL_d16 0x1234, []) ∧
  decode [0b11110101] = .ok (.PUSH_AF, []) ∧ decode [0b10011110] = .ok (.SBC_A__HL, []) ∧
  decode [0b11111110, 0x40] = .ok (.CP_d8 0x40, []) ∧ decode [0b00111001] = .ok (.ADD_HL_SP, []) ∧
  decode [0b11001011, 0b01111110] = .ok (.BIT_7__HL, []) ∧ decode [0b11001011, 0b00110111] = .ok (.SWAP_A, []) ∧
  decode [0b11011100, 0x00, 0x20] = .ok (.CALL_C_a16 0x2000, []) ∧ decode [0b11101111] = .ok (.RST_0x28, []) ∧
  decode [0b00010000, 0x00] = .ok (.STOP 0x00, []) ∧ decode [0b01110110] = .ok (.HALT, []) ∧
  decode [0b11011101] = .ok (.UNDEFINED 0xDD, [])

/-- R100, R101, R106, R122: decoding the encoding of a well-formed instruction, whatever bytes follow, gives it back with
every operand, and those bytes. (The CB byte alone is only itself with nothing after it, R335.) -/
def Obligations.DecodeOfEncode : Prop :=
  ∀ (i : Instr) (rest : List Byte), i.wf = true → (i = .PREFIX_CB → rest = []) →
    decode (encode i ++ rest) = .ok (i, rest)

/-- R120: what decodes is well formed, and its encoding is exactly the bytes decoded: each byte sequence has one meaning. -/
def Obligations.EncodeOfDecode : Prop :=
  ∀ (bytes rest : List Byte) (i : Instr), decode bytes = .ok (i, rest) →
    i.wf = true ∧ encode i ++ rest = bytes ∧ 1 ≤ (encode i).length ∧ (encode i).length ≤ 3

/-! ## Reset (10_state.md, 70_reset_and_hazards.md) -/

/-- R45, R46, R400, R403: the values the spec gives for the two start states, in every configuration; State.reset is the
power-on state of Config.default. The values of A, B, C, D, E, H, L and SP after power-on are the model's choice (assumption
1) and are not stated; SP of a CGB that starts PostBoot is assumption 19's. -/
def Obligations.StartStates : Prop :=
  (∀ cfg : Config,
    let s := State.initial cfg
    s.phase = .opcode ∧ s.ic.ime = false ∧ s.ic.ie = 0x00 ∧ s.ic.ifByte = 0xE0 ∧ s.ic.pendingEnable = none ∧
    s.ic.pendingDisable = none ∧ s.haltBug = false ∧ s.clockCycle = 0 ∧ s.speed.multiplier = 1 ∧
    s.prepareSwitch = false ∧ s.regs.f &&& 0x0F = 0 ∧
    (cfg.launch = .powerOn → s.regs.pc = 0x0000 ∧ s.bootMapped = true) ∧
    (cfg.launch = .postBoot → s.regs.pc = 0x0100 ∧ s.regs.sp = 0xFFFE ∧ s.bootMapped = false ∧
      (cfg.gbc = false → s.regs.a = 0x01 ∧ s.regs.f = 0xB0 ∧ s.bc = 0x0013 ∧ s.de = 0x00D8 ∧ s.hl = 0x014D) ∧
      (cfg.gbc = true → s.regs.a = 0x11))) ∧
  State.reset = State.initial Config.default ∧ Config.default.launch = .powerOn

/-! ## Invariants -/

/-- The invariant holds after reset, in every configuration. -/
def Obligations.ResetMeetsInvariant : Prop :=
  State.reset.Inv ∧ ∀ cfg : Config, (State.initial cfg).Inv

/-- R23, R31, R32, R37, R60, R72, R75, R356: every step keeps the invariant: canonical memory inside the address space and
its banks, `F[3:0] = 0`, a DMG stays at single speed and in its first banks, at most one delay counter armed, an OAM DMA window
no longer than it starts, the machine at an instruction boundary. -/
def Obligations.StepKeepsInvariant : Prop :=
  ∀ s t : State, s.Inv → step s = .next t → t.Inv

/-- The data part of the invariant is kept by every tick of the tick-level machine, whatever the other agents do. -/
def Obligations.TickKeepsDataInvariant : Prop :=
  ∀ (inp : TickInput) (s t : State), s.DataInv → tick inp s = .next t → t.DataInv

/-! ## The tick-level machine and the step (R148) -/

/-- R121, R140 to R145: for every defined opcode but HALT and STOP, the meaning of the instruction is its micro-op list run
to the end, then InstructionFinished. The lists are the model's (assumption 12). -/
def Obligations.MicroOpsGiveTheMeaning : Prop :=
  ∀ (b0 b1 b2 : Byte) (s : State), undefinedOpcodes.contains b0 = false → b0 ∉ ([0x10, 0x76] : List Byte) →
    exec (decodeBytes b0 b1 b2) s =
      .next (if b0 = 0xCB then runOps { b0 := 0, b1 := 0 } (cbOps b1) 0 s
        else runOps { b0 := b1, b1 := b2 } (primaryOps b0) 0 s).instructionFinished

/-- R75, R78, R130, R131, R139, R143, R146, R148, R361 to R366, R377, R413, R421: a step from a boundary is a whole number of
M-cycles of the tick-level machine in which only the CPU and the OAM DMA act, tick by tick, so that the DMA acts between any
two accesses; they differ in the instruction latches only. With no DMA in progress at the start the number is the duration
table's for an instruction, five for a dispatch, one for an idle step. -/
def Obligations.StepIsTicks : Prop :=
  ∀ s : State, s.clockCycle = 0 → s.phase.idle = true →
    let f := State.fetch { s with phase := .opcode }
    ∃ m, 1 ≤ m ∧ m ≤ 16 ∧
      (s.dma = none → m = if s.ic.accepts = true then 5
        else if s.phase = .opcode ∨ s.phase = .halted ∧ s.ic.requested = true then f.st.cycles f.b0 f.b1 else 1) ∧
      ((∃ t u, step s = .next t ∧ quietTicks (m * s.speed.ticksPerCycle) s = .next u ∧ u = { t with latch := u.latch }) ∨
        ∃ e, step s = .fault e ∧ quietTicks (m * s.speed.ticksPerCycle) s = .fault e)

/-- R75, R78, R148, R413: an instruction whose ticks all lie inside an OAM DMA window, or that starts a DMA, does in a step
what it does alone, and only the window's ticks pass beside it: all of the instruction's, unless it has written 0xFF46 and so
started the window anew. At least one then passes, because the window counts from the tick of the write, in which Dma follows
Cpu: the model's reading (assumption 20). -/
def Obligations.StepDuringDma : Prop :=
  ∀ s : State, s.phase = .opcode → s.ic.accepts = false →
    let f := s.fetch
    let i := decodeBytes f.b0 f.b1 f.b2
    let n := f.st.cycles f.b0 f.b1 * s.speed.ticksPerCycle
    (∀ d, s.dma = some d → n < d.ticksLeft) →
    (∀ t, exec i f.st = .next t → ∃ u, step s = .next u ∧ u = { t with dma := u.dma } ∧
      (t.dma = none → u.dma = none) ∧
      ∀ d, t.dma = some d → ∃ k, 1 ≤ k ∧ k ≤ n ∧ u.dma = some { d with ticksLeft := d.ticksLeft - k } ∧
        ((∀ p, Event.deviceWrite 0xFF46 p ∉ t.events.drop s.events.length) → k = n)) ∧
    ∀ e, exec i f.st = .fault e → step s = .fault e

/-- R130, R131, R416: the CPU acts on one tick in `4 / Speed`: the ticks between advance the divider and nothing else. -/
def Obligations.TickDivider : Prop :=
  ∀ s : State,
    (s.clockCycle + 1 < 4 / s.speed.multiplier → cpuTick s = .next { s with clockCycle := s.clockCycle + 1 }) ∧
    (4 / s.speed.multiplier ≤ s.clockCycle + 1 → cpuTick s = substep { s with clockCycle := 0 })
end

