-- ==== Sys2Proof/Laws/Memory.lean ====
section
/-! SUPPORT. Laws/Memory.lean: memory as a canonical list of cells: read after write, the canonical form, equality. -/

namespace Sys2Proof.Machine

theorem Memory.wfFrom_mono {lo lo' : Nat} {m : Memory} (h : lo' ≤ lo) (w : m.wfFrom lo = true) : m.wfFrom lo' = true := by
  cases m with
  | nil => rfl
  | cons c rest =>
    simp only [Memory.wfFrom, Bool.and_eq_true, decide_eq_true_eq] at w ⊢
    exact ⟨⟨by omega, w.1.2⟩, w.2⟩

/-- Below the first listed address every cell reads as an unlisted one. -/
theorem Memory.read_below {lo a : Nat} {m : Memory} (w : m.wfFrom lo = true) (h : a < lo) :
    m.read a = Memory.unlisted a := by
  induction m generalizing lo with
  | nil => rfl
  | cons c rest ih =>
    simp only [Memory.wfFrom, Bool.and_eq_true, decide_eq_true_eq] at w
    have hne : c.1 ≠ a := by omega
    simp only [Memory.read, if_neg hne]
    exact ih w.2 (by omega)

/-- A write keeps the canonical form. -/
theorem Memory.write_wfFrom {lo a : Nat} {m : Memory} (v : Byte) (w : m.wfFrom lo = true) (h : lo ≤ a) :
    (m.write a v).wfFrom lo = true := by
  induction m generalizing lo with
  | nil =>
    simp only [Memory.write]
    split <;> simp_all [Memory.wfFrom]
  | cons c rest ih =>
    obtain ⟨k, x⟩ := c
    simp only [Memory.wfFrom, Bool.and_eq_true, decide_eq_true_eq] at w
    simp only [Memory.write]
    split
    · rename_i hk
      simp only [Memory.wfFrom, Bool.and_eq_true, decide_eq_true_eq]
      exact ⟨w.1, ih w.2 (by omega)⟩
    · split
      · subst_vars
        split
        · exact Memory.wfFrom_mono (by omega) w.2
        · simp only [Memory.wfFrom, Bool.and_eq_true, decide_eq_true_eq]
          exact ⟨⟨h, by assumption⟩, w.2⟩
      · split
        · simp only [Memory.wfFrom, Bool.and_eq_true, decide_eq_true_eq]
          exact w
        · simp only [Memory.wfFrom, Bool.and_eq_true, decide_eq_true_eq]
          exact ⟨⟨h, by assumption⟩, ⟨by omega, w.1.2⟩, w.2⟩

theorem Memory.write_wf {m : Memory} (a : Nat) (v : Byte) (w : m.wf = true) : (m.write a v).wf = true :=
  Memory.write_wfFrom v w (Nat.zero_le a)

theorem Memory.read_write_from {lo a : Nat} {m : Memory} (v : Byte) (b : Nat) (w : m.wfFrom lo = true) (h : lo ≤ a) :
    (m.write a v).read b = if b = a then v else m.read b := by
  induction m generalizing lo with
  | nil =>
    simp only [Memory.write]
    by_cases hb : b = a
    · subst hb; split <;> simp_all [Memory.read]
    · split <;> simp [Memory.read, Ne.symm hb]
  | cons c rest ih =>
    obtain ⟨k, x⟩ := c
    simp only [Memory.wfFrom, Bool.and_eq_true, decide_eq_true_eq] at w
    simp only [Memory.write]
    by_cases h1 : k < a
    · simp only [if_pos h1, Memory.read, ih w.2 (by omega)]
      by_cases hb : b = a
      · subst hb; simp [show k ≠ b by omega]
      · simp [hb]
    · simp only [if_neg h1]
      by_cases h2 : k = a
      · subst h2
        simp only [if_pos]
        by_cases hv : v = Memory.unlisted k
        · simp only [if_pos hv, Memory.read]
          by_cases hb : b = k
          · subst hb
            simp only [if_pos]
            rw [Memory.read_below w.2 (by omega), hv]
          · simp [hb, Ne.symm hb]
        · simp only [if_neg hv, Memory.read]
          by_cases hb : b = k
          · simp [hb]
          · simp [hb, Ne.symm hb]
      · simp only [if_neg h2]
        by_cases hv : v = Memory.unlisted a
        · simp only [if_pos hv]
          by_cases hb : b = a
          · subst hb
            simp only [if_pos, Memory.read, if_neg h2]
            rw [Memory.read_below w.2 (by omega), hv]
          · simp [hb]
        · simp only [if_neg hv, Memory.read]
          by_cases hb : b = a
          · simp [hb]
          · simp [hb, Ne.symm hb]

/-- Read after write, at the same address and at another. -/
theorem Memory.read_write {m : Memory} (w : m.wf = true) (a : Nat) (v : Byte) (b : Nat) :
    (m.write a v).read b = if b = a then v else m.read b :=
  Memory.read_write_from v b w (Nat.zero_le a)

/-- Two memories in canonical form that read alike everywhere are equal. -/
theorem Memory.ext_from {lo : Nat} {m m' : Memory} (w : m.wfFrom lo = true) (w' : m'.wfFrom lo = true)
    (h : ∀ a, m.read a = m'.read a) : m = m' := by
  induction m generalizing lo m' with
  | nil =>
    cases m' with
    | nil => rfl
    | cons c rest =>
      simp only [Memory.wfFrom, Bool.and_eq_true, decide_eq_true_eq] at w'
      have := h c.1
      simp only [Memory.read, if_pos] at this
      exact absurd this.symm w'.1.2
  | cons c rest ih =>
    obtain ⟨k, x⟩ := c
    simp only [Memory.wfFrom, Bool.and_eq_true, decide_eq_true_eq] at w
    cases m' with
    | nil =>
      have := h k
      simp only [Memory.read, if_pos] at this
      exact absurd this w.1.2
    | cons c' rest' =>
      obtain ⟨k', x'⟩ := c'
      simp only [Memory.wfFrom, Bool.and_eq_true, decide_eq_true_eq] at w'
      have hk : k = k' := by
        rcases Nat.lt_trichotomy k k' with hlt | heq | hlt
        · have := h k
          simp only [Memory.read, if_pos, if_neg (show ¬ k' = k by omega)] at this
          rw [Memory.read_below w'.2 (by omega)] at this
          exact absurd this w.1.2
        · exact heq
        · have := h k'
          simp only [Memory.read, if_pos, if_neg (show ¬ k = k' by omega)] at this
          rw [Memory.read_below w.2 (by omega)] at this
          exact absurd this.symm w'.1.2
      subst hk
      have hx : x = x' := by simpa [Memory.read] using h k
      subst hx
      congr 1
      refine ih w.2 w'.2 (fun a => ?_)
      by_cases ha : k = a
      · subst ha
        rw [Memory.read_below w.2 (by omega), Memory.read_below w'.2 (by omega)]
      · simpa [Memory.read, ha] using h a

theorem Memory.ext {m m' : Memory} (w : m.wf = true) (w' : m'.wf = true) (h : ∀ a, m.read a = m'.read a) : m = m' :=
  Memory.ext_from w w' h

/-- The addresses a write lists are the old ones and the one written. -/
theorem Memory.mem_write {m : Memory} {a : Nat} {v : Byte} {c : Host.Cell} (h : c ∈ m.write a v) :
    c ∈ m ∨ c.1 = a := by
  induction m with
  | nil =>
    simp only [Memory.write] at h
    split at h <;> simp_all
  | cons d rest ih =>
    obtain ⟨k, x⟩ := d
    simp only [Memory.write] at h
    split at h
    · rcases List.mem_cons.mp h with rfl | h'
      · exact .inl List.mem_cons_self
      · exact (ih h').imp (List.mem_cons_of_mem _) id
    · split at h
      · split at h
        · exact .inl (List.mem_cons_of_mem _ h)
        · rcases List.mem_cons.mp h with rfl | h'
          · exact .inr rfl
          · exact .inl (List.mem_cons_of_mem _ h')
      · split at h
        · exact .inl h
        · rcases List.mem_cons.mp h with rfl | h'
          · exact .inr rfl
          · exact .inl h'

end Sys2Proof.Machine
end

