-- ==== Sys2Proof/Laws/State.lean ====
section
/-! SUPPORT. Laws/State.lean: one lemma per field and update of State, and the register file's read and write laws. -/

namespace Sys2Proof.Machine

/-! ### setR8 -/

@[simp] theorem State.setR8_cfg (s : State) (r : Reg8) (v : Byte) : (s.setR8 r v).cfg = s.cfg := by cases r <;> rfl
@[simp] theorem State.setR8_ic (s : State) (r : Reg8) (v : Byte) : (s.setR8 r v).ic = s.ic := by cases r <;> rfl
@[simp] theorem State.setR8_phase (s : State) (r : Reg8) (v : Byte) : (s.setR8 r v).phase = s.phase := by cases r <;> rfl
@[simp] theorem State.setR8_haltBug (s : State) (r : Reg8) (v : Byte) : (s.setR8 r v).haltBug = s.haltBug := by cases r <;> rfl
@[simp] theorem State.setR8_clockCycle (s : State) (r : Reg8) (v : Byte) : (s.setR8 r v).clockCycle = s.clockCycle := by cases r <;> rfl
@[simp] theorem State.setR8_latch (s : State) (r : Reg8) (v : Byte) : (s.setR8 r v).latch = s.latch := by cases r <;> rfl
@[simp] theorem State.setR8_irq (s : State) (r : Reg8) (v : Byte) : (s.setR8 r v).irq = s.irq := by cases r <;> rfl
@[simp] theorem State.setR8_speed (s : State) (r : Reg8) (v : Byte) : (s.setR8 r v).speed = s.speed := by cases r <;> rfl
@[simp] theorem State.setR8_prepareSwitch (s : State) (r : Reg8) (v : Byte) : (s.setR8 r v).prepareSwitch = s.prepareSwitch := by cases r <;> rfl
@[simp] theorem State.setR8_mem (s : State) (r : Reg8) (v : Byte) : (s.setR8 r v).mem = s.mem := by cases r <;> rfl
@[simp] theorem State.setR8_bootRom (s : State) (r : Reg8) (v : Byte) : (s.setR8 r v).bootRom = s.bootRom := by cases r <;> rfl
@[simp] theorem State.setR8_bootMapped (s : State) (r : Reg8) (v : Byte) : (s.setR8 r v).bootMapped = s.bootMapped := by cases r <;> rfl
@[simp] theorem State.setR8_banks (s : State) (r : Reg8) (v : Byte) : (s.setR8 r v).banks = s.banks := by cases r <;> rfl
@[simp] theorem State.setR8_dma (s : State) (r : Reg8) (v : Byte) : (s.setR8 r v).dma = s.dma := by cases r <;> rfl
@[simp] theorem State.setR8_ppu (s : State) (r : Reg8) (v : Byte) : (s.setR8 r v).ppu = s.ppu := by cases r <;> rfl
@[simp] theorem State.setR8_events (s : State) (r : Reg8) (v : Byte) : (s.setR8 r v).events = s.events := by cases r <;> rfl
@[simp] theorem State.setR8_draws (s : State) (r : Reg8) (v : Byte) : (s.setR8 r v).draws = s.draws := by cases r <;> rfl

/-! ### setF -/

@[simp] theorem State.setF_cfg (s : State) (v : Byte) : (s.setF v).cfg = s.cfg := rfl
@[simp] theorem State.setF_ic (s : State) (v : Byte) : (s.setF v).ic = s.ic := rfl
@[simp] theorem State.setF_phase (s : State) (v : Byte) : (s.setF v).phase = s.phase := rfl
@[simp] theorem State.setF_haltBug (s : State) (v : Byte) : (s.setF v).haltBug = s.haltBug := rfl
@[simp] theorem State.setF_clockCycle (s : State) (v : Byte) : (s.setF v).clockCycle = s.clockCycle := rfl
@[simp] theorem State.setF_latch (s : State) (v : Byte) : (s.setF v).latch = s.latch := rfl
@[simp] theorem State.setF_irq (s : State) (v : Byte) : (s.setF v).irq = s.irq := rfl
@[simp] theorem State.setF_speed (s : State) (v : Byte) : (s.setF v).speed = s.speed := rfl
@[simp] theorem State.setF_prepareSwitch (s : State) (v : Byte) : (s.setF v).prepareSwitch = s.prepareSwitch := rfl
@[simp] theorem State.setF_mem (s : State) (v : Byte) : (s.setF v).mem = s.mem := rfl
@[simp] theorem State.setF_bootRom (s : State) (v : Byte) : (s.setF v).bootRom = s.bootRom := rfl
@[simp] theorem State.setF_bootMapped (s : State) (v : Byte) : (s.setF v).bootMapped = s.bootMapped := rfl
@[simp] theorem State.setF_banks (s : State) (v : Byte) : (s.setF v).banks = s.banks := rfl
@[simp] theorem State.setF_dma (s : State) (v : Byte) : (s.setF v).dma = s.dma := rfl
@[simp] theorem State.setF_ppu (s : State) (v : Byte) : (s.setF v).ppu = s.ppu := rfl
@[simp] theorem State.setF_events (s : State) (v : Byte) : (s.setF v).events = s.events := rfl
@[simp] theorem State.setF_draws (s : State) (v : Byte) : (s.setF v).draws = s.draws := rfl

/-! ### setSp -/

@[simp] theorem State.setSp_cfg (s : State) (v : Word) : (s.setSp v).cfg = s.cfg := rfl
@[simp] theorem State.setSp_ic (s : State) (v : Word) : (s.setSp v).ic = s.ic := rfl
@[simp] theorem State.setSp_phase (s : State) (v : Word) : (s.setSp v).phase = s.phase := rfl
@[simp] theorem State.setSp_haltBug (s : State) (v : Word) : (s.setSp v).haltBug = s.haltBug := rfl
@[simp] theorem State.setSp_clockCycle (s : State) (v : Word) : (s.setSp v).clockCycle = s.clockCycle := rfl
@[simp] theorem State.setSp_latch (s : State) (v : Word) : (s.setSp v).latch = s.latch := rfl
@[simp] theorem State.setSp_irq (s : State) (v : Word) : (s.setSp v).irq = s.irq := rfl
@[simp] theorem State.setSp_speed (s : State) (v : Word) : (s.setSp v).speed = s.speed := rfl
@[simp] theorem State.setSp_prepareSwitch (s : State) (v : Word) : (s.setSp v).prepareSwitch = s.prepareSwitch := rfl
@[simp] theorem State.setSp_mem (s : State) (v : Word) : (s.setSp v).mem = s.mem := rfl
@[simp] theorem State.setSp_bootRom (s : State) (v : Word) : (s.setSp v).bootRom = s.bootRom := rfl
@[simp] theorem State.setSp_bootMapped (s : State) (v : Word) : (s.setSp v).bootMapped = s.bootMapped := rfl
@[simp] theorem State.setSp_banks (s : State) (v : Word) : (s.setSp v).banks = s.banks := rfl
@[simp] theorem State.setSp_dma (s : State) (v : Word) : (s.setSp v).dma = s.dma := rfl
@[simp] theorem State.setSp_ppu (s : State) (v : Word) : (s.setSp v).ppu = s.ppu := rfl
@[simp] theorem State.setSp_events (s : State) (v : Word) : (s.setSp v).events = s.events := rfl
@[simp] theorem State.setSp_draws (s : State) (v : Word) : (s.setSp v).draws = s.draws := rfl

/-! ### setPc -/

@[simp] theorem State.setPc_cfg (s : State) (v : Word) : (s.setPc v).cfg = s.cfg := rfl
@[simp] theorem State.setPc_ic (s : State) (v : Word) : (s.setPc v).ic = s.ic := rfl
@[simp] theorem State.setPc_phase (s : State) (v : Word) : (s.setPc v).phase = s.phase := rfl
@[simp] theorem State.setPc_haltBug (s : State) (v : Word) : (s.setPc v).haltBug = s.haltBug := rfl
@[simp] theorem State.setPc_clockCycle (s : State) (v : Word) : (s.setPc v).clockCycle = s.clockCycle := rfl
@[simp] theorem State.setPc_latch (s : State) (v : Word) : (s.setPc v).latch = s.latch := rfl
@[simp] theorem State.setPc_irq (s : State) (v : Word) : (s.setPc v).irq = s.irq := rfl
@[simp] theorem State.setPc_speed (s : State) (v : Word) : (s.setPc v).speed = s.speed := rfl
@[simp] theorem State.setPc_prepareSwitch (s : State) (v : Word) : (s.setPc v).prepareSwitch = s.prepareSwitch := rfl
@[simp] theorem State.setPc_mem (s : State) (v : Word) : (s.setPc v).mem = s.mem := rfl
@[simp] theorem State.setPc_bootRom (s : State) (v : Word) : (s.setPc v).bootRom = s.bootRom := rfl
@[simp] theorem State.setPc_bootMapped (s : State) (v : Word) : (s.setPc v).bootMapped = s.bootMapped := rfl
@[simp] theorem State.setPc_banks (s : State) (v : Word) : (s.setPc v).banks = s.banks := rfl
@[simp] theorem State.setPc_dma (s : State) (v : Word) : (s.setPc v).dma = s.dma := rfl
@[simp] theorem State.setPc_ppu (s : State) (v : Word) : (s.setPc v).ppu = s.ppu := rfl
@[simp] theorem State.setPc_events (s : State) (v : Word) : (s.setPc v).events = s.events := rfl
@[simp] theorem State.setPc_draws (s : State) (v : Word) : (s.setPc v).draws = s.draws := rfl

/-! ### setR16 -/

@[simp] theorem State.setR16_cfg (s : State) (r : Reg16) (v : Word) : (s.setR16 r v).cfg = s.cfg := by cases r <;> rfl
@[simp] theorem State.setR16_ic (s : State) (r : Reg16) (v : Word) : (s.setR16 r v).ic = s.ic := by cases r <;> rfl
@[simp] theorem State.setR16_phase (s : State) (r : Reg16) (v : Word) : (s.setR16 r v).phase = s.phase := by cases r <;> rfl
@[simp] theorem State.setR16_haltBug (s : State) (r : Reg16) (v : Word) : (s.setR16 r v).haltBug = s.haltBug := by cases r <;> rfl
@[simp] theorem State.setR16_clockCycle (s : State) (r : Reg16) (v : Word) : (s.setR16 r v).clockCycle = s.clockCycle := by cases r <;> rfl
@[simp] theorem State.setR16_latch (s : State) (r : Reg16) (v : Word) : (s.setR16 r v).latch = s.latch := by cases r <;> rfl
@[simp] theorem State.setR16_irq (s : State) (r : Reg16) (v : Word) : (s.setR16 r v).irq = s.irq := by cases r <;> rfl
@[simp] theorem State.setR16_speed (s : State) (r : Reg16) (v : Word) : (s.setR16 r v).speed = s.speed := by cases r <;> rfl
@[simp] theorem State.setR16_prepareSwitch (s : State) (r : Reg16) (v : Word) : (s.setR16 r v).prepareSwitch = s.prepareSwitch := by cases r <;> rfl
@[simp] theorem State.setR16_mem (s : State) (r : Reg16) (v : Word) : (s.setR16 r v).mem = s.mem := by cases r <;> rfl
@[simp] theorem State.setR16_bootRom (s : State) (r : Reg16) (v : Word) : (s.setR16 r v).bootRom = s.bootRom := by cases r <;> rfl
@[simp] theorem State.setR16_bootMapped (s : State) (r : Reg16) (v : Word) : (s.setR16 r v).bootMapped = s.bootMapped := by cases r <;> rfl
@[simp] theorem State.setR16_banks (s : State) (r : Reg16) (v : Word) : (s.setR16 r v).banks = s.banks := by cases r <;> rfl
@[simp] theorem State.setR16_dma (s : State) (r : Reg16) (v : Word) : (s.setR16 r v).dma = s.dma := by cases r <;> rfl
@[simp] theorem State.setR16_ppu (s : State) (r : Reg16) (v : Word) : (s.setR16 r v).ppu = s.ppu := by cases r <;> rfl
@[simp] theorem State.setR16_events (s : State) (r : Reg16) (v : Word) : (s.setR16 r v).events = s.events := by cases r <;> rfl
@[simp] theorem State.setR16_draws (s : State) (r : Reg16) (v : Word) : (s.setR16 r v).draws = s.draws := by cases r <;> rfl

/-! ### setPair -/

@[simp] theorem State.setPair_cfg (s : State) (r : StackPair) (v : Word) : (s.setPair r v).cfg = s.cfg := by cases r <;> rfl
@[simp] theorem State.setPair_ic (s : State) (r : StackPair) (v : Word) : (s.setPair r v).ic = s.ic := by cases r <;> rfl
@[simp] theorem State.setPair_phase (s : State) (r : StackPair) (v : Word) : (s.setPair r v).phase = s.phase := by cases r <;> rfl
@[simp] theorem State.setPair_haltBug (s : State) (r : StackPair) (v : Word) : (s.setPair r v).haltBug = s.haltBug := by cases r <;> rfl
@[simp] theorem State.setPair_clockCycle (s : State) (r : StackPair) (v : Word) : (s.setPair r v).clockCycle = s.clockCycle := by cases r <;> rfl
@[simp] theorem State.setPair_latch (s : State) (r : StackPair) (v : Word) : (s.setPair r v).latch = s.latch := by cases r <;> rfl
@[simp] theorem State.setPair_irq (s : State) (r : StackPair) (v : Word) : (s.setPair r v).irq = s.irq := by cases r <;> rfl
@[simp] theorem State.setPair_speed (s : State) (r : StackPair) (v : Word) : (s.setPair r v).speed = s.speed := by cases r <;> rfl
@[simp] theorem State.setPair_prepareSwitch (s : State) (r : StackPair) (v : Word) : (s.setPair r v).prepareSwitch = s.prepareSwitch := by cases r <;> rfl
@[simp] theorem State.setPair_mem (s : State) (r : StackPair) (v : Word) : (s.setPair r v).mem = s.mem := by cases r <;> rfl
@[simp] theorem State.setPair_bootRom (s : State) (r : StackPair) (v : Word) : (s.setPair r v).bootRom = s.bootRom := by cases r <;> rfl
@[simp] theorem State.setPair_bootMapped (s : State) (r : StackPair) (v : Word) : (s.setPair r v).bootMapped = s.bootMapped := by cases r <;> rfl
@[simp] theorem State.setPair_banks (s : State) (r : StackPair) (v : Word) : (s.setPair r v).banks = s.banks := by cases r <;> rfl
@[simp] theorem State.setPair_dma (s : State) (r : StackPair) (v : Word) : (s.setPair r v).dma = s.dma := by cases r <;> rfl
@[simp] theorem State.setPair_ppu (s : State) (r : StackPair) (v : Word) : (s.setPair r v).ppu = s.ppu := by cases r <;> rfl
@[simp] theorem State.setPair_events (s : State) (r : StackPair) (v : Word) : (s.setPair r v).events = s.events := by cases r <;> rfl
@[simp] theorem State.setPair_draws (s : State) (r : StackPair) (v : Word) : (s.setPair r v).draws = s.draws := by cases r <;> rfl

/-! ### setAF -/

@[simp] theorem State.setAF_cfg (s : State) (o : AluOut) : (s.setAF o).cfg = s.cfg := rfl
@[simp] theorem State.setAF_ic (s : State) (o : AluOut) : (s.setAF o).ic = s.ic := rfl
@[simp] theorem State.setAF_phase (s : State) (o : AluOut) : (s.setAF o).phase = s.phase := rfl
@[simp] theorem State.setAF_haltBug (s : State) (o : AluOut) : (s.setAF o).haltBug = s.haltBug := rfl
@[simp] theorem State.setAF_clockCycle (s : State) (o : AluOut) : (s.setAF o).clockCycle = s.clockCycle := rfl
@[simp] theorem State.setAF_latch (s : State) (o : AluOut) : (s.setAF o).latch = s.latch := rfl
@[simp] theorem State.setAF_irq (s : State) (o : AluOut) : (s.setAF o).irq = s.irq := rfl
@[simp] theorem State.setAF_speed (s : State) (o : AluOut) : (s.setAF o).speed = s.speed := rfl
@[simp] theorem State.setAF_prepareSwitch (s : State) (o : AluOut) : (s.setAF o).prepareSwitch = s.prepareSwitch := rfl
@[simp] theorem State.setAF_mem (s : State) (o : AluOut) : (s.setAF o).mem = s.mem := rfl
@[simp] theorem State.setAF_bootRom (s : State) (o : AluOut) : (s.setAF o).bootRom = s.bootRom := rfl
@[simp] theorem State.setAF_bootMapped (s : State) (o : AluOut) : (s.setAF o).bootMapped = s.bootMapped := rfl
@[simp] theorem State.setAF_banks (s : State) (o : AluOut) : (s.setAF o).banks = s.banks := rfl
@[simp] theorem State.setAF_dma (s : State) (o : AluOut) : (s.setAF o).dma = s.dma := rfl
@[simp] theorem State.setAF_ppu (s : State) (o : AluOut) : (s.setAF o).ppu = s.ppu := rfl
@[simp] theorem State.setAF_events (s : State) (o : AluOut) : (s.setAF o).events = s.events := rfl
@[simp] theorem State.setAF_draws (s : State) (o : AluOut) : (s.setAF o).draws = s.draws := rfl

/-! ### emit -/

@[simp] theorem State.emit_cfg (s : State) (e : Event) : (s.emit e).cfg = s.cfg := rfl
@[simp] theorem State.emit_regs (s : State) (e : Event) : (s.emit e).regs = s.regs := rfl
@[simp] theorem State.emit_ic (s : State) (e : Event) : (s.emit e).ic = s.ic := rfl
@[simp] theorem State.emit_phase (s : State) (e : Event) : (s.emit e).phase = s.phase := rfl
@[simp] theorem State.emit_haltBug (s : State) (e : Event) : (s.emit e).haltBug = s.haltBug := rfl
@[simp] theorem State.emit_clockCycle (s : State) (e : Event) : (s.emit e).clockCycle = s.clockCycle := rfl
@[simp] theorem State.emit_latch (s : State) (e : Event) : (s.emit e).latch = s.latch := rfl
@[simp] theorem State.emit_irq (s : State) (e : Event) : (s.emit e).irq = s.irq := rfl
@[simp] theorem State.emit_speed (s : State) (e : Event) : (s.emit e).speed = s.speed := rfl
@[simp] theorem State.emit_prepareSwitch (s : State) (e : Event) : (s.emit e).prepareSwitch = s.prepareSwitch := rfl
@[simp] theorem State.emit_mem (s : State) (e : Event) : (s.emit e).mem = s.mem := rfl
@[simp] theorem State.emit_bootRom (s : State) (e : Event) : (s.emit e).bootRom = s.bootRom := rfl
@[simp] theorem State.emit_bootMapped (s : State) (e : Event) : (s.emit e).bootMapped = s.bootMapped := rfl
@[simp] theorem State.emit_banks (s : State) (e : Event) : (s.emit e).banks = s.banks := rfl
@[simp] theorem State.emit_dma (s : State) (e : Event) : (s.emit e).dma = s.dma := rfl
@[simp] theorem State.emit_ppu (s : State) (e : Event) : (s.emit e).ppu = s.ppu := rfl
@[simp] theorem State.emit_draws (s : State) (e : Event) : (s.emit e).draws = s.draws := rfl

/-! ### instructionFinished -/

@[simp] theorem State.instructionFinished_cfg (s : State) : (s.instructionFinished).cfg = s.cfg := rfl
@[simp] theorem State.instructionFinished_regs (s : State) : (s.instructionFinished).regs = s.regs := rfl
@[simp] theorem State.instructionFinished_phase (s : State) : (s.instructionFinished).phase = s.phase := rfl
@[simp] theorem State.instructionFinished_haltBug (s : State) : (s.instructionFinished).haltBug = s.haltBug := rfl
@[simp] theorem State.instructionFinished_clockCycle (s : State) : (s.instructionFinished).clockCycle = s.clockCycle := rfl
@[simp] theorem State.instructionFinished_latch (s : State) : (s.instructionFinished).latch = s.latch := rfl
@[simp] theorem State.instructionFinished_irq (s : State) : (s.instructionFinished).irq = s.irq := rfl
@[simp] theorem State.instructionFinished_speed (s : State) : (s.instructionFinished).speed = s.speed := rfl
@[simp] theorem State.instructionFinished_prepareSwitch (s : State) : (s.instructionFinished).prepareSwitch = s.prepareSwitch := rfl
@[simp] theorem State.instructionFinished_mem (s : State) : (s.instructionFinished).mem = s.mem := rfl
@[simp] theorem State.instructionFinished_bootRom (s : State) : (s.instructionFinished).bootRom = s.bootRom := rfl
@[simp] theorem State.instructionFinished_bootMapped (s : State) : (s.instructionFinished).bootMapped = s.bootMapped := rfl
@[simp] theorem State.instructionFinished_banks (s : State) : (s.instructionFinished).banks = s.banks := rfl
@[simp] theorem State.instructionFinished_dma (s : State) : (s.instructionFinished).dma = s.dma := rfl
@[simp] theorem State.instructionFinished_ppu (s : State) : (s.instructionFinished).ppu = s.ppu := rfl
@[simp] theorem State.instructionFinished_events (s : State) : (s.instructionFinished).events = s.events := rfl
@[simp] theorem State.instructionFinished_draws (s : State) : (s.instructionFinished).draws = s.draws := rfl

/-! ### returnEnable -/

@[simp] theorem State.returnEnable_cfg (s : State) : (s.returnEnable).cfg = s.cfg := rfl
@[simp] theorem State.returnEnable_regs (s : State) : (s.returnEnable).regs = s.regs := rfl
@[simp] theorem State.returnEnable_phase (s : State) : (s.returnEnable).phase = s.phase := rfl
@[simp] theorem State.returnEnable_haltBug (s : State) : (s.returnEnable).haltBug = s.haltBug := rfl
@[simp] theorem State.returnEnable_clockCycle (s : State) : (s.returnEnable).clockCycle = s.clockCycle := rfl
@[simp] theorem State.returnEnable_latch (s : State) : (s.returnEnable).latch = s.latch := rfl
@[simp] theorem State.returnEnable_irq (s : State) : (s.returnEnable).irq = s.irq := rfl
@[simp] theorem State.returnEnable_speed (s : State) : (s.returnEnable).speed = s.speed := rfl
@[simp] theorem State.returnEnable_prepareSwitch (s : State) : (s.returnEnable).prepareSwitch = s.prepareSwitch := rfl
@[simp] theorem State.returnEnable_mem (s : State) : (s.returnEnable).mem = s.mem := rfl
@[simp] theorem State.returnEnable_bootRom (s : State) : (s.returnEnable).bootRom = s.bootRom := rfl
@[simp] theorem State.returnEnable_bootMapped (s : State) : (s.returnEnable).bootMapped = s.bootMapped := rfl
@[simp] theorem State.returnEnable_banks (s : State) : (s.returnEnable).banks = s.banks := rfl
@[simp] theorem State.returnEnable_dma (s : State) : (s.returnEnable).dma = s.dma := rfl
@[simp] theorem State.returnEnable_ppu (s : State) : (s.returnEnable).ppu = s.ppu := rfl
@[simp] theorem State.returnEnable_events (s : State) : (s.returnEnable).events = s.events := rfl
@[simp] theorem State.returnEnable_draws (s : State) : (s.returnEnable).draws = s.draws := rfl

/-! ### startDma -/

@[simp] theorem State.startDma_cfg (s : State) (p : Byte) : (s.startDma p).cfg = s.cfg := rfl
@[simp] theorem State.startDma_regs (s : State) (p : Byte) : (s.startDma p).regs = s.regs := rfl
@[simp] theorem State.startDma_ic (s : State) (p : Byte) : (s.startDma p).ic = s.ic := rfl
@[simp] theorem State.startDma_phase (s : State) (p : Byte) : (s.startDma p).phase = s.phase := rfl
@[simp] theorem State.startDma_haltBug (s : State) (p : Byte) : (s.startDma p).haltBug = s.haltBug := rfl
@[simp] theorem State.startDma_clockCycle (s : State) (p : Byte) : (s.startDma p).clockCycle = s.clockCycle := rfl
@[simp] theorem State.startDma_latch (s : State) (p : Byte) : (s.startDma p).latch = s.latch := rfl
@[simp] theorem State.startDma_irq (s : State) (p : Byte) : (s.startDma p).irq = s.irq := rfl
@[simp] theorem State.startDma_speed (s : State) (p : Byte) : (s.startDma p).speed = s.speed := rfl
@[simp] theorem State.startDma_prepareSwitch (s : State) (p : Byte) : (s.startDma p).prepareSwitch = s.prepareSwitch := rfl
@[simp] theorem State.startDma_mem (s : State) (p : Byte) : (s.startDma p).mem = s.mem := rfl
@[simp] theorem State.startDma_bootRom (s : State) (p : Byte) : (s.startDma p).bootRom = s.bootRom := rfl
@[simp] theorem State.startDma_bootMapped (s : State) (p : Byte) : (s.startDma p).bootMapped = s.bootMapped := rfl
@[simp] theorem State.startDma_banks (s : State) (p : Byte) : (s.startDma p).banks = s.banks := rfl
@[simp] theorem State.startDma_ppu (s : State) (p : Byte) : (s.startDma p).ppu = s.ppu := rfl
@[simp] theorem State.startDma_events (s : State) (p : Byte) : (s.startDma p).events = s.events := rfl
@[simp] theorem State.startDma_draws (s : State) (p : Byte) : (s.startDma p).draws = s.draws := rfl

/-! ### The updated field, and the registers an update leaves alone -/

@[simp] theorem State.setF_regs_a (s : State) (v : Byte) : (s.setF v).regs.a = s.regs.a := rfl
@[simp] theorem State.setF_regs_f (s : State) (v : Byte) : (s.setF v).regs.f = maskF v := rfl
@[simp] theorem State.setF_regs_b (s : State) (v : Byte) : (s.setF v).regs.b = s.regs.b := rfl
@[simp] theorem State.setF_regs_c (s : State) (v : Byte) : (s.setF v).regs.c = s.regs.c := rfl
@[simp] theorem State.setF_regs_d (s : State) (v : Byte) : (s.setF v).regs.d = s.regs.d := rfl
@[simp] theorem State.setF_regs_e (s : State) (v : Byte) : (s.setF v).regs.e = s.regs.e := rfl
@[simp] theorem State.setF_regs_h (s : State) (v : Byte) : (s.setF v).regs.h = s.regs.h := rfl
@[simp] theorem State.setF_regs_l (s : State) (v : Byte) : (s.setF v).regs.l = s.regs.l := rfl
@[simp] theorem State.setF_regs_sp (s : State) (v : Byte) : (s.setF v).regs.sp = s.regs.sp := rfl
@[simp] theorem State.setF_regs_pc (s : State) (v : Byte) : (s.setF v).regs.pc = s.regs.pc := rfl
@[simp] theorem State.setSp_regs_a (s : State) (v : Word) : (s.setSp v).regs.a = s.regs.a := rfl
@[simp] theorem State.setSp_regs_f (s : State) (v : Word) : (s.setSp v).regs.f = s.regs.f := rfl
@[simp] theorem State.setSp_regs_b (s : State) (v : Word) : (s.setSp v).regs.b = s.regs.b := rfl
@[simp] theorem State.setSp_regs_c (s : State) (v : Word) : (s.setSp v).regs.c = s.regs.c := rfl
@[simp] theorem State.setSp_regs_d (s : State) (v : Word) : (s.setSp v).regs.d = s.regs.d := rfl
@[simp] theorem State.setSp_regs_e (s : State) (v : Word) : (s.setSp v).regs.e = s.regs.e := rfl
@[simp] theorem State.setSp_regs_h (s : State) (v : Word) : (s.setSp v).regs.h = s.regs.h := rfl
@[simp] theorem State.setSp_regs_l (s : State) (v : Word) : (s.setSp v).regs.l = s.regs.l := rfl
@[simp] theorem State.setSp_regs_sp (s : State) (v : Word) : (s.setSp v).regs.sp = v := rfl
@[simp] theorem State.setSp_regs_pc (s : State) (v : Word) : (s.setSp v).regs.pc = s.regs.pc := rfl
@[simp] theorem State.setPc_regs_a (s : State) (v : Word) : (s.setPc v).regs.a = s.regs.a := rfl
@[simp] theorem State.setPc_regs_f (s : State) (v : Word) : (s.setPc v).regs.f = s.regs.f := rfl
@[simp] theorem State.setPc_regs_b (s : State) (v : Word) : (s.setPc v).regs.b = s.regs.b := rfl
@[simp] theorem State.setPc_regs_c (s : State) (v : Word) : (s.setPc v).regs.c = s.regs.c := rfl
@[simp] theorem State.setPc_regs_d (s : State) (v : Word) : (s.setPc v).regs.d = s.regs.d := rfl
@[simp] theorem State.setPc_regs_e (s : State) (v : Word) : (s.setPc v).regs.e = s.regs.e := rfl
@[simp] theorem State.setPc_regs_h (s : State) (v : Word) : (s.setPc v).regs.h = s.regs.h := rfl
@[simp] theorem State.setPc_regs_l (s : State) (v : Word) : (s.setPc v).regs.l = s.regs.l := rfl
@[simp] theorem State.setPc_regs_sp (s : State) (v : Word) : (s.setPc v).regs.sp = s.regs.sp := rfl
@[simp] theorem State.setPc_regs_pc (s : State) (v : Word) : (s.setPc v).regs.pc = v := rfl
@[simp] theorem State.setR8_regs_f (s : State) (r : Reg8) (v : Byte) : (s.setR8 r v).regs.f = s.regs.f := by cases r <;> rfl
@[simp] theorem State.setR8_regs_pc (s : State) (r : Reg8) (v : Byte) : (s.setR8 r v).regs.pc = s.regs.pc := by cases r <;> rfl
@[simp] theorem State.setR8_regs_sp (s : State) (r : Reg8) (v : Byte) : (s.setR8 r v).regs.sp = s.regs.sp := by cases r <;> rfl
@[simp] theorem State.setR16_regs_f (s : State) (r : Reg16) (v : Word) : (s.setR16 r v).regs.f = s.regs.f := by cases r <;> rfl
@[simp] theorem State.setR16_regs_pc (s : State) (r : Reg16) (v : Word) : (s.setR16 r v).regs.pc = s.regs.pc := by cases r <;> rfl
@[simp] theorem State.setPair_regs_sp (s : State) (r : StackPair) (v : Word) : (s.setPair r v).regs.sp = s.regs.sp := by
  cases r <;> rfl
@[simp] theorem State.setPair_regs_pc (s : State) (r : StackPair) (v : Word) : (s.setPair r v).regs.pc = s.regs.pc := by
  cases r <;> rfl
@[simp] theorem State.setAF_regs_a (s : State) (o : AluOut) : (s.setAF o).regs.a = o.val := rfl
@[simp] theorem State.setAF_regs_f (s : State) (o : AluOut) : (s.setAF o).regs.f = maskF o.f := rfl
@[simp] theorem State.emit_events (s : State) (e : Event) : (s.emit e).events = s.events ++ [e] := rfl
@[simp] theorem State.instructionFinished_ic (s : State) : s.instructionFinished.ic = s.ic.instructionFinished := rfl
@[simp] theorem State.returnEnable_ic (s : State) : s.returnEnable.ic = s.ic.enableNow := rfl
@[simp] theorem State.startDma_dma (s : State) (p : Byte) :
    (s.startDma p).dma = some { page := p, ticksLeft := 648 / s.speed.multiplier } := rfl

/-! ### Reading registers after an update -/

@[simp] theorem State.r8_setR8_same (s : State) (r : Reg8) (v : Byte) : (s.setR8 r v).r8 r = v := by cases r <;> rfl

theorem State.r8_setR8_other (s : State) (r r' : Reg8) (v : Byte) (h : r' ≠ r) : (s.setR8 r v).r8 r' = s.r8 r' := by
  cases r <;> cases r' <;> first | rfl | exact absurd rfl h

@[simp] theorem State.r8_setF (s : State) (r : Reg8) (v : Byte) : (s.setF v).r8 r = s.r8 r := by cases r <;> rfl
@[simp] theorem State.r8_setSp (s : State) (r : Reg8) (v : Word) : (s.setSp v).r8 r = s.r8 r := by cases r <;> rfl
@[simp] theorem State.r8_setPc (s : State) (r : Reg8) (v : Word) : (s.setPc v).r8 r = s.r8 r := by cases r <;> rfl

/-- The registers read depend on the register file only. -/
theorem State.r8_congr {s t : State} (h : t.regs = s.regs) (r : Reg8) : t.r8 r = s.r8 r := by
  cases r <;> simp [State.r8, h]

theorem State.r16_congr {s t : State} (h : t.regs = s.regs) (r : Reg16) : t.r16 r = s.r16 r := by
  cases r <;> simp [State.r16, State.bc, State.de, State.hl, h]

theorem State.pair_congr {s t : State} (h : t.regs = s.regs) (r : StackPair) : t.pair r = s.pair r := by
  cases r <;> simp [State.pair, State.bc, State.de, State.hl, State.af, h]

theorem State.cond_congr {s t : State} (h : t.regs = s.regs) (c : Cond) : t.cond c = s.cond c := by
  cases c <;> simp [State.cond, h]

/-! ### A word and its two bytes -/

@[simp] theorem hiByte_pairOf (h l : Byte) : hiByte (pairOf h l) = h := by
  unfold hiByte pairOf; ext i hi
  rw [BitVec.getElem_extractLsb', BitVec.getLsbD_append]
  simp [show ¬ 8 + i < 8 by omega, hi]

@[simp] theorem loByte_pairOf (h l : Byte) : loByte (pairOf h l) = l := by
  unfold loByte pairOf; ext i hi
  rw [BitVec.getElem_extractLsb', BitVec.getLsbD_append]
  simp [hi]

@[simp] theorem pairOf_bytes (v : Word) : pairOf (hiByte v) (loByte v) = v := by
  apply BitVec.eq_of_getLsbD_eq
  intro i hi
  unfold pairOf hiByte loByte
  rw [BitVec.getLsbD_append, BitVec.getLsbD_extractLsb', BitVec.getLsbD_extractLsb']
  by_cases h : i < 8
  · simp [h]
  · simp [h, show i - 8 < 8 by omega, show 8 + (i - 8) = i by omega]

@[simp] theorem State.r16_setR16_same (s : State) (r : Reg16) (v : Word) : (s.setR16 r v).r16 r = v := by
  cases r <;> simp [State.r16, State.setR16, State.bc, State.de, State.hl]

/-- R23: the two halves of F that a write keeps and drops. -/
@[simp] theorem maskF_low (v : Byte) : maskF v &&& 0x0F = 0 := by
  unfold maskF; ext i hi; interval_cases i <;> simp

@[simp] theorem maskF_maskF (v : Byte) : maskF (maskF v) = maskF v := by
  unfold maskF; ext i hi; interval_cases i <;> simp

/-- R22: a flag byte packed from four flags has a zero low nibble, so a write to F stores it whole. -/
@[simp] theorem maskF_packF (z n h c : Bool) : maskF (packF z n h c) = packF z n h c := by
  cases z <;> cases n <;> cases h <;> cases c <;> decide

@[simp] theorem flagZ_packF (z n h c : Bool) : flagZ (packF z n h c) = z := by
  cases z <;> cases n <;> cases h <;> cases c <;> decide
@[simp] theorem flagN_packF (z n h c : Bool) : flagN (packF z n h c) = n := by
  cases z <;> cases n <;> cases h <;> cases c <;> decide
@[simp] theorem flagH_packF (z n h c : Bool) : flagH (packF z n h c) = h := by
  cases z <;> cases n <;> cases h <;> cases c <;> decide
@[simp] theorem flagC_packF (z n h c : Bool) : flagC (packF z n h c) = c := by
  cases z <;> cases n <;> cases h <;> cases c <;> decide

end Sys2Proof.Machine
end

