-- ==== Sys2Proof/Laws/Ops.lean ====
section
/-! SUPPORT. Laws/Ops.lean: what each shared operation can do: one lemma per field it leaves alone, and what it does to the
rest. -/

namespace Sys2Proof.Machine

/-- The address map depends on the configuration, the boot overlay, the banks selected and a running DMA only. -/
theorem State.place_congr {s t : State} (hc : t.cfg = s.cfg) (hb : t.bootMapped = s.bootMapped)
    (hk : t.banks = s.banks) (hd : t.dma = s.dma) (a : Word) : t.place a = s.place a := by
  simp [State.place, State.flatPlace, State.gameBoyPlace, State.vramCell, State.wramCell, hc, hb, hk, hd]

theorem State.storeCell_congr {s t : State} (hc : t.cfg = s.cfg) (hb : t.bootMapped = s.bootMapped)
    (hk : t.banks = s.banks) (hd : t.dma = s.dma) (a : Word) : t.storeCell a = s.storeCell a := by
  simp [State.storeCell, State.place_congr hc hb hk hd]

/-! ### busRead -/

/-- The whole of what a bus read can do to the machine: it may use a free value. -/
theorem State.busRead_frame (s : State) (a : Word) :
    (s.busRead a).2 = s ∨ (s.busRead a).2 = { s with draws := s.draws + 1 } := by
  unfold State.busRead State.draw
  split <;> first | exact .inl rfl | exact .inr rfl

@[simp] theorem State.busRead_cfg (s : State) (a : Word) : (s.busRead a).2.cfg = s.cfg := by
  unfold State.busRead State.draw; split <;> rfl
@[simp] theorem State.busRead_regs (s : State) (a : Word) : (s.busRead a).2.regs = s.regs := by
  unfold State.busRead State.draw; split <;> rfl
@[simp] theorem State.busRead_ic (s : State) (a : Word) : (s.busRead a).2.ic = s.ic := by
  unfold State.busRead State.draw; split <;> rfl
@[simp] theorem State.busRead_phase (s : State) (a : Word) : (s.busRead a).2.phase = s.phase := by
  unfold State.busRead State.draw; split <;> rfl
@[simp] theorem State.busRead_haltBug (s : State) (a : Word) : (s.busRead a).2.haltBug = s.haltBug := by
  unfold State.busRead State.draw; split <;> rfl
@[simp] theorem State.busRead_clockCycle (s : State) (a : Word) : (s.busRead a).2.clockCycle = s.clockCycle := by
  unfold State.busRead State.draw; split <;> rfl
@[simp] theorem State.busRead_latch (s : State) (a : Word) : (s.busRead a).2.latch = s.latch := by
  unfold State.busRead State.draw; split <;> rfl
@[simp] theorem State.busRead_irq (s : State) (a : Word) : (s.busRead a).2.irq = s.irq := by
  unfold State.busRead State.draw; split <;> rfl
@[simp] theorem State.busRead_speed (s : State) (a : Word) : (s.busRead a).2.speed = s.speed := by
  unfold State.busRead State.draw; split <;> rfl
@[simp] theorem State.busRead_prepareSwitch (s : State) (a : Word) : (s.busRead a).2.prepareSwitch = s.prepareSwitch := by
  unfold State.busRead State.draw; split <;> rfl
@[simp] theorem State.busRead_mem (s : State) (a : Word) : (s.busRead a).2.mem = s.mem := by
  unfold State.busRead State.draw; split <;> rfl
@[simp] theorem State.busRead_bootRom (s : State) (a : Word) : (s.busRead a).2.bootRom = s.bootRom := by
  unfold State.busRead State.draw; split <;> rfl
@[simp] theorem State.busRead_bootMapped (s : State) (a : Word) : (s.busRead a).2.bootMapped = s.bootMapped := by
  unfold State.busRead State.draw; split <;> rfl
@[simp] theorem State.busRead_banks (s : State) (a : Word) : (s.busRead a).2.banks = s.banks := by
  unfold State.busRead State.draw; split <;> rfl
@[simp] theorem State.busRead_dma (s : State) (a : Word) : (s.busRead a).2.dma = s.dma := by
  unfold State.busRead State.draw; split <;> rfl
@[simp] theorem State.busRead_ppu (s : State) (a : Word) : (s.busRead a).2.ppu = s.ppu := by
  unfold State.busRead State.draw; split <;> rfl
@[simp] theorem State.busRead_events (s : State) (a : Word) : (s.busRead a).2.events = s.events := by
  unfold State.busRead State.draw; split <;> rfl

/-! ### busWrite -/

/-- What a bus write does to memory: the one cell `storeCell` names. -/
theorem State.busWrite_mem (s : State) (a : Word) (v : Byte) :
    (s.busWrite a v).mem = match s.storeCell a with | some k => s.mem.write k v | none => s.mem := by
  unfold State.busWrite State.storeCell
  split <;> simp_all

/-- IME and the delay counters are not on the bus. -/
@[simp] theorem State.busWrite_ic_ime (s : State) (a : Word) (v : Byte) : (s.busWrite a v).ic.ime = s.ic.ime := by
  unfold State.busWrite; split <;> rfl
@[simp] theorem State.busWrite_ic_pendingEnable (s : State) (a : Word) (v : Byte) :
    (s.busWrite a v).ic.pendingEnable = s.ic.pendingEnable := by
  unfold State.busWrite; split <;> rfl
@[simp] theorem State.busWrite_ic_pendingDisable (s : State) (a : Word) (v : Byte) :
    (s.busWrite a v).ic.pendingDisable = s.ic.pendingDisable := by
  unfold State.busWrite; split <;> rfl

@[simp] theorem State.busWrite_cfg (s : State) (a : Word) (v : Byte) : (s.busWrite a v).cfg = s.cfg := by
  unfold State.busWrite; split <;> rfl
@[simp] theorem State.busWrite_regs (s : State) (a : Word) (v : Byte) : (s.busWrite a v).regs = s.regs := by
  unfold State.busWrite; split <;> rfl
@[simp] theorem State.busWrite_phase (s : State) (a : Word) (v : Byte) : (s.busWrite a v).phase = s.phase := by
  unfold State.busWrite; split <;> rfl
@[simp] theorem State.busWrite_haltBug (s : State) (a : Word) (v : Byte) : (s.busWrite a v).haltBug = s.haltBug := by
  unfold State.busWrite; split <;> rfl
@[simp] theorem State.busWrite_clockCycle (s : State) (a : Word) (v : Byte) : (s.busWrite a v).clockCycle = s.clockCycle := by
  unfold State.busWrite; split <;> rfl
@[simp] theorem State.busWrite_latch (s : State) (a : Word) (v : Byte) : (s.busWrite a v).latch = s.latch := by
  unfold State.busWrite; split <;> rfl
@[simp] theorem State.busWrite_irq (s : State) (a : Word) (v : Byte) : (s.busWrite a v).irq = s.irq := by
  unfold State.busWrite; split <;> rfl
@[simp] theorem State.busWrite_speed (s : State) (a : Word) (v : Byte) : (s.busWrite a v).speed = s.speed := by
  unfold State.busWrite; split <;> rfl
@[simp] theorem State.busWrite_bootRom (s : State) (a : Word) (v : Byte) : (s.busWrite a v).bootRom = s.bootRom := by
  unfold State.busWrite; split <;> rfl
@[simp] theorem State.busWrite_ppu (s : State) (a : Word) (v : Byte) : (s.busWrite a v).ppu = s.ppu := by
  unfold State.busWrite; split <;> rfl
@[simp] theorem State.busWrite_draws (s : State) (a : Word) (v : Byte) : (s.busWrite a v).draws = s.draws := by
  unfold State.busWrite; split <;> rfl

theorem State.busWrite_wf (s : State) (w : s.mem.wf = true) (a : Word) (v : Byte) : (s.busWrite a v).mem.wf = true := by
  rw [State.busWrite_mem]
  split
  · exact Memory.write_wf _ _ w
  · exact w

/-- One byte of memory after a bus write. -/
theorem State.busWrite_read (s : State) (w : s.mem.wf = true) (a : Word) (v : Byte) (k : Nat) :
    (s.busWrite a v).mem.read k = if s.storeCell a = some k then v else s.mem.read k := by
  rw [State.busWrite_mem]
  cases h : s.storeCell a with
  | none => simp
  | some c =>
    simp only [Memory.read_write w, Option.some.injEq]
    by_cases hk : k = c
    · simp [hk]
    · simp [hk, Ne.symm hk]

/-! ### oamFree -/

@[simp] theorem State.oamFree_cfg (s : State) (k : Nat) : (s.oamFree k).cfg = s.cfg := by
  induction k with
  | zero => rfl
  | succ k ih => exact ih
@[simp] theorem State.oamFree_regs (s : State) (k : Nat) : (s.oamFree k).regs = s.regs := by
  induction k with
  | zero => rfl
  | succ k ih => exact ih
@[simp] theorem State.oamFree_ic (s : State) (k : Nat) : (s.oamFree k).ic = s.ic := by
  induction k with
  | zero => rfl
  | succ k ih => exact ih
@[simp] theorem State.oamFree_phase (s : State) (k : Nat) : (s.oamFree k).phase = s.phase := by
  induction k with
  | zero => rfl
  | succ k ih => exact ih
@[simp] theorem State.oamFree_haltBug (s : State) (k : Nat) : (s.oamFree k).haltBug = s.haltBug := by
  induction k with
  | zero => rfl
  | succ k ih => exact ih
@[simp] theorem State.oamFree_clockCycle (s : State) (k : Nat) : (s.oamFree k).clockCycle = s.clockCycle := by
  induction k with
  | zero => rfl
  | succ k ih => exact ih
@[simp] theorem State.oamFree_latch (s : State) (k : Nat) : (s.oamFree k).latch = s.latch := by
  induction k with
  | zero => rfl
  | succ k ih => exact ih
@[simp] theorem State.oamFree_irq (s : State) (k : Nat) : (s.oamFree k).irq = s.irq := by
  induction k with
  | zero => rfl
  | succ k ih => exact ih
@[simp] theorem State.oamFree_speed (s : State) (k : Nat) : (s.oamFree k).speed = s.speed := by
  induction k with
  | zero => rfl
  | succ k ih => exact ih
@[simp] theorem State.oamFree_prepareSwitch (s : State) (k : Nat) : (s.oamFree k).prepareSwitch = s.prepareSwitch := by
  induction k with
  | zero => rfl
  | succ k ih => exact ih
@[simp] theorem State.oamFree_bootRom (s : State) (k : Nat) : (s.oamFree k).bootRom = s.bootRom := by
  induction k with
  | zero => rfl
  | succ k ih => exact ih
@[simp] theorem State.oamFree_bootMapped (s : State) (k : Nat) : (s.oamFree k).bootMapped = s.bootMapped := by
  induction k with
  | zero => rfl
  | succ k ih => exact ih
@[simp] theorem State.oamFree_banks (s : State) (k : Nat) : (s.oamFree k).banks = s.banks := by
  induction k with
  | zero => rfl
  | succ k ih => exact ih
@[simp] theorem State.oamFree_dma (s : State) (k : Nat) : (s.oamFree k).dma = s.dma := by
  induction k with
  | zero => rfl
  | succ k ih => exact ih
@[simp] theorem State.oamFree_ppu (s : State) (k : Nat) : (s.oamFree k).ppu = s.ppu := by
  induction k with
  | zero => rfl
  | succ k ih => exact ih
@[simp] theorem State.oamFree_events (s : State) (k : Nat) : (s.oamFree k).events = s.events := by
  induction k with
  | zero => rfl
  | succ k ih => exact ih

/-- Only the bytes of OAM become free. -/
theorem State.oamFree_read (s : State) (w : s.mem.wf = true) (k a : Nat) (h : a < 0xFE00 ∨ 0xFE00 + k ≤ a) :
    (s.oamFree k).mem.read a = s.mem.read a := by
  induction k with
  | zero => rfl
  | succ k ih =>
    have wk : (s.oamFree k).mem.wf = true := by
      clear ih h
      induction k with
      | zero => exact w
      | succ k ih => exact Memory.write_wf _ _ ih
    show ((s.oamFree k).mem.write (0xFE00 + k) _).read a = _
    rw [Memory.read_write wk, if_neg (by omega)]
    exact ih (by omega)

theorem State.oamFree_wf (s : State) (w : s.mem.wf = true) (k : Nat) : (s.oamFree k).mem.wf = true := by
  induction k with
  | zero => exact w
  | succ k ih => exact Memory.write_wf _ _ ih

/-! ### oamCheck -/

@[simp] theorem State.oamCheck_cfg (s : State) (t : OamType) (v : Word) : (s.oamCheck t v).cfg = s.cfg := by
  unfold State.oamCheck; split
  · split <;> simp
  · rfl
@[simp] theorem State.oamCheck_regs (s : State) (t : OamType) (v : Word) : (s.oamCheck t v).regs = s.regs := by
  unfold State.oamCheck; split
  · split <;> simp
  · rfl
@[simp] theorem State.oamCheck_ic (s : State) (t : OamType) (v : Word) : (s.oamCheck t v).ic = s.ic := by
  unfold State.oamCheck; split
  · split <;> simp
  · rfl
@[simp] theorem State.oamCheck_phase (s : State) (t : OamType) (v : Word) : (s.oamCheck t v).phase = s.phase := by
  unfold State.oamCheck; split
  · split <;> simp
  · rfl
@[simp] theorem State.oamCheck_haltBug (s : State) (t : OamType) (v : Word) : (s.oamCheck t v).haltBug = s.haltBug := by
  unfold State.oamCheck; split
  · split <;> simp
  · rfl
@[simp] theorem State.oamCheck_clockCycle (s : State) (t : OamType) (v : Word) : (s.oamCheck t v).clockCycle = s.clockCycle := by
  unfold State.oamCheck; split
  · split <;> simp
  · rfl
@[simp] theorem State.oamCheck_latch (s : State) (t : OamType) (v : Word) : (s.oamCheck t v).latch = s.latch := by
  unfold State.oamCheck; split
  · split <;> simp
  · rfl
@[simp] theorem State.oamCheck_irq (s : State) (t : OamType) (v : Word) : (s.oamCheck t v).irq = s.irq := by
  unfold State.oamCheck; split
  · split <;> simp
  · rfl
@[simp] theorem State.oamCheck_speed (s : State) (t : OamType) (v : Word) : (s.oamCheck t v).speed = s.speed := by
  unfold State.oamCheck; split
  · split <;> simp
  · rfl
@[simp] theorem State.oamCheck_prepareSwitch (s : State) (t : OamType) (v : Word) : (s.oamCheck t v).prepareSwitch = s.prepareSwitch := by
  unfold State.oamCheck; split
  · split <;> simp
  · rfl
@[simp] theorem State.oamCheck_bootRom (s : State) (t : OamType) (v : Word) : (s.oamCheck t v).bootRom = s.bootRom := by
  unfold State.oamCheck; split
  · split <;> simp
  · rfl
@[simp] theorem State.oamCheck_bootMapped (s : State) (t : OamType) (v : Word) : (s.oamCheck t v).bootMapped = s.bootMapped := by
  unfold State.oamCheck; split
  · split <;> simp
  · rfl
@[simp] theorem State.oamCheck_banks (s : State) (t : OamType) (v : Word) : (s.oamCheck t v).banks = s.banks := by
  unfold State.oamCheck; split
  · split <;> simp
  · rfl
@[simp] theorem State.oamCheck_dma (s : State) (t : OamType) (v : Word) : (s.oamCheck t v).dma = s.dma := by
  unfold State.oamCheck; split
  · split <;> simp
  · rfl
@[simp] theorem State.oamCheck_ppu (s : State) (t : OamType) (v : Word) : (s.oamCheck t v).ppu = s.ppu := by
  unfold State.oamCheck; split
  · split <;> simp
  · rfl

/-- Outside OAM the check changes no byte. -/
theorem State.oamCheck_read (s : State) (w : s.mem.wf = true) (t : OamType) (v : Word) (a : Nat)
    (h : a < 0xFE00 ∨ 0xFEA0 ≤ a) : (s.oamCheck t v).mem.read a = s.mem.read a := by
  unfold State.oamCheck
  split
  · split
    · rfl
    · exact State.oamFree_read (s.emit (.oamCorrupt t)) w 160 a (by omega)
  · rfl

/-- With the OAM window closed the check does nothing. -/
theorem State.oamCheck_closed (s : State) (t : OamType) (v : Word) (h : s.oamWindow = false) : s.oamCheck t v = s := by
  simp [State.oamCheck, h]

/-- A register outside 0xFE00 to 0xFEFF never triggers the check. -/
theorem State.oamCheck_outside (s : State) (t : OamType) (v : Word) (h : inOamPage v = false) : s.oamCheck t v = s := by
  simp [State.oamCheck, h]

theorem State.oamCheck_wf (s : State) (w : s.mem.wf = true) (t : OamType) (v : Word) :
    (s.oamCheck t v).mem.wf = true := by
  unfold State.oamCheck
  split
  · split
    · exact w
    · exact State.oamFree_wf (s.emit (.oamCorrupt t)) w 160
  · exact w

/-! ### pushByte -/

@[simp] theorem State.pushByte_cfg (s : State) (t : OamType) (v : Byte) : (s.pushByte t v).cfg = s.cfg := by
  simp [State.pushByte]
@[simp] theorem State.pushByte_phase (s : State) (t : OamType) (v : Byte) : (s.pushByte t v).phase = s.phase := by
  simp [State.pushByte]
@[simp] theorem State.pushByte_haltBug (s : State) (t : OamType) (v : Byte) : (s.pushByte t v).haltBug = s.haltBug := by
  simp [State.pushByte]
@[simp] theorem State.pushByte_clockCycle (s : State) (t : OamType) (v : Byte) : (s.pushByte t v).clockCycle = s.clockCycle := by
  simp [State.pushByte]
@[simp] theorem State.pushByte_latch (s : State) (t : OamType) (v : Byte) : (s.pushByte t v).latch = s.latch := by
  simp [State.pushByte]
@[simp] theorem State.pushByte_irq (s : State) (t : OamType) (v : Byte) : (s.pushByte t v).irq = s.irq := by
  simp [State.pushByte]
@[simp] theorem State.pushByte_speed (s : State) (t : OamType) (v : Byte) : (s.pushByte t v).speed = s.speed := by
  simp [State.pushByte]
@[simp] theorem State.pushByte_bootRom (s : State) (t : OamType) (v : Byte) : (s.pushByte t v).bootRom = s.bootRom := by
  simp [State.pushByte]
@[simp] theorem State.pushByte_ppu (s : State) (t : OamType) (v : Byte) : (s.pushByte t v).ppu = s.ppu := by
  simp [State.pushByte]

@[simp] theorem State.pushByte_sp (s : State) (t : OamType) (v : Byte) : (s.pushByte t v).regs.sp = s.regs.sp - 1 := by
  simp [State.pushByte]
theorem State.pushByte_regs (s : State) (t : OamType) (v : Byte) :
    (s.pushByte t v).regs = { s.regs with sp := s.regs.sp - 1 } := by
  simp [State.pushByte, State.setSp]
theorem State.pushByte_wf (s : State) (w : s.mem.wf = true) (t : OamType) (v : Byte) :
    (s.pushByte t v).mem.wf = true := by
  unfold State.pushByte
  exact State.busWrite_wf _ (by simpa using State.oamCheck_wf s w _ _) _ _

/-! ### popByte -/

@[simp] theorem State.popByte_cfg (s : State) (t : OamType) : (s.popByte t).2.cfg = s.cfg := by
  simp [State.popByte]
@[simp] theorem State.popByte_ic (s : State) (t : OamType) : (s.popByte t).2.ic = s.ic := by
  simp [State.popByte]
@[simp] theorem State.popByte_phase (s : State) (t : OamType) : (s.popByte t).2.phase = s.phase := by
  simp [State.popByte]
@[simp] theorem State.popByte_haltBug (s : State) (t : OamType) : (s.popByte t).2.haltBug = s.haltBug := by
  simp [State.popByte]
@[simp] theorem State.popByte_clockCycle (s : State) (t : OamType) : (s.popByte t).2.clockCycle = s.clockCycle := by
  simp [State.popByte]
@[simp] theorem State.popByte_latch (s : State) (t : OamType) : (s.popByte t).2.latch = s.latch := by
  simp [State.popByte]
@[simp] theorem State.popByte_irq (s : State) (t : OamType) : (s.popByte t).2.irq = s.irq := by
  simp [State.popByte]
@[simp] theorem State.popByte_speed (s : State) (t : OamType) : (s.popByte t).2.speed = s.speed := by
  simp [State.popByte]
@[simp] theorem State.popByte_prepareSwitch (s : State) (t : OamType) : (s.popByte t).2.prepareSwitch = s.prepareSwitch := by
  simp [State.popByte]
@[simp] theorem State.popByte_bootRom (s : State) (t : OamType) : (s.popByte t).2.bootRom = s.bootRom := by
  simp [State.popByte]
@[simp] theorem State.popByte_bootMapped (s : State) (t : OamType) : (s.popByte t).2.bootMapped = s.bootMapped := by
  simp [State.popByte]
@[simp] theorem State.popByte_banks (s : State) (t : OamType) : (s.popByte t).2.banks = s.banks := by
  simp [State.popByte]
@[simp] theorem State.popByte_dma (s : State) (t : OamType) : (s.popByte t).2.dma = s.dma := by
  simp [State.popByte]
@[simp] theorem State.popByte_ppu (s : State) (t : OamType) : (s.popByte t).2.ppu = s.ppu := by
  simp [State.popByte]

theorem State.popByte_regs (s : State) (t : OamType) :
    (s.popByte t).2.regs = { s.regs with sp := s.regs.sp + 1 } := by
  simp [State.popByte, State.setSp]
theorem State.popByte_wf (s : State) (w : s.mem.wf = true) (t : OamType) : (s.popByte t).2.mem.wf = true := by
  simpa [State.popByte] using State.oamCheck_wf _ w _ _

/-! ### push16 -/

@[simp] theorem State.push16_cfg (s : State) (v : Word) : (s.push16 v).cfg = s.cfg := by
  simp [State.push16]
@[simp] theorem State.push16_phase (s : State) (v : Word) : (s.push16 v).phase = s.phase := by
  simp [State.push16]
@[simp] theorem State.push16_haltBug (s : State) (v : Word) : (s.push16 v).haltBug = s.haltBug := by
  simp [State.push16]
@[simp] theorem State.push16_clockCycle (s : State) (v : Word) : (s.push16 v).clockCycle = s.clockCycle := by
  simp [State.push16]
@[simp] theorem State.push16_latch (s : State) (v : Word) : (s.push16 v).latch = s.latch := by
  simp [State.push16]
@[simp] theorem State.push16_irq (s : State) (v : Word) : (s.push16 v).irq = s.irq := by
  simp [State.push16]
@[simp] theorem State.push16_speed (s : State) (v : Word) : (s.push16 v).speed = s.speed := by
  simp [State.push16]
@[simp] theorem State.push16_bootRom (s : State) (v : Word) : (s.push16 v).bootRom = s.bootRom := by
  simp [State.push16]
@[simp] theorem State.push16_ppu (s : State) (v : Word) : (s.push16 v).ppu = s.ppu := by
  simp [State.push16]

theorem State.push16_regs (s : State) (v : Word) : (s.push16 v).regs = { s.regs with sp := s.regs.sp - 2 } := by
  simp only [State.push16, State.pushByte_regs]
  congr 1
  bv_omega
theorem State.push16_wf (s : State) (w : s.mem.wf = true) (v : Word) : (s.push16 v).mem.wf = true :=
  State.pushByte_wf _ (State.pushByte_wf _ w _ _) _ _

/-! ### pop16 -/

@[simp] theorem State.pop16_cfg (s : State) : s.pop16.2.cfg = s.cfg := by
  simp [State.pop16]
@[simp] theorem State.pop16_ic (s : State) : s.pop16.2.ic = s.ic := by
  simp [State.pop16]
@[simp] theorem State.pop16_phase (s : State) : s.pop16.2.phase = s.phase := by
  simp [State.pop16]
@[simp] theorem State.pop16_haltBug (s : State) : s.pop16.2.haltBug = s.haltBug := by
  simp [State.pop16]
@[simp] theorem State.pop16_clockCycle (s : State) : s.pop16.2.clockCycle = s.clockCycle := by
  simp [State.pop16]
@[simp] theorem State.pop16_latch (s : State) : s.pop16.2.latch = s.latch := by
  simp [State.pop16]
@[simp] theorem State.pop16_irq (s : State) : s.pop16.2.irq = s.irq := by
  simp [State.pop16]
@[simp] theorem State.pop16_speed (s : State) : s.pop16.2.speed = s.speed := by
  simp [State.pop16]
@[simp] theorem State.pop16_prepareSwitch (s : State) : s.pop16.2.prepareSwitch = s.prepareSwitch := by
  simp [State.pop16]
@[simp] theorem State.pop16_bootRom (s : State) : s.pop16.2.bootRom = s.bootRom := by
  simp [State.pop16]
@[simp] theorem State.pop16_bootMapped (s : State) : s.pop16.2.bootMapped = s.bootMapped := by
  simp [State.pop16]
@[simp] theorem State.pop16_banks (s : State) : s.pop16.2.banks = s.banks := by
  simp [State.pop16]
@[simp] theorem State.pop16_dma (s : State) : s.pop16.2.dma = s.dma := by
  simp [State.pop16]
@[simp] theorem State.pop16_ppu (s : State) : s.pop16.2.ppu = s.ppu := by
  simp [State.pop16]

theorem State.pop16_regs (s : State) : s.pop16.2.regs = { s.regs with sp := s.regs.sp + 2 } := by
  simp only [State.pop16, State.popByte_regs]
  congr 1
  bv_omega
theorem State.pop16_wf (s : State) (w : s.mem.wf = true) : s.pop16.2.mem.wf = true :=
  State.popByte_wf _ (State.popByte_wf _ w _) _

/-! ### fetch8 -/

@[simp] theorem State.fetch8_cfg (s : State) : s.fetch8.2.cfg = s.cfg := by
  simp [State.fetch8]
@[simp] theorem State.fetch8_ic (s : State) : s.fetch8.2.ic = s.ic := by
  simp [State.fetch8]
@[simp] theorem State.fetch8_phase (s : State) : s.fetch8.2.phase = s.phase := by
  simp [State.fetch8]
@[simp] theorem State.fetch8_haltBug (s : State) : s.fetch8.2.haltBug = s.haltBug := by
  simp [State.fetch8]
@[simp] theorem State.fetch8_clockCycle (s : State) : s.fetch8.2.clockCycle = s.clockCycle := by
  simp [State.fetch8]
@[simp] theorem State.fetch8_latch (s : State) : s.fetch8.2.latch = s.latch := by
  simp [State.fetch8]
@[simp] theorem State.fetch8_irq (s : State) : s.fetch8.2.irq = s.irq := by
  simp [State.fetch8]
@[simp] theorem State.fetch8_speed (s : State) : s.fetch8.2.speed = s.speed := by
  simp [State.fetch8]
@[simp] theorem State.fetch8_prepareSwitch (s : State) : s.fetch8.2.prepareSwitch = s.prepareSwitch := by
  simp [State.fetch8]
@[simp] theorem State.fetch8_mem (s : State) : s.fetch8.2.mem = s.mem := by
  simp [State.fetch8]
@[simp] theorem State.fetch8_bootRom (s : State) : s.fetch8.2.bootRom = s.bootRom := by
  simp [State.fetch8]
@[simp] theorem State.fetch8_bootMapped (s : State) : s.fetch8.2.bootMapped = s.bootMapped := by
  simp [State.fetch8]
@[simp] theorem State.fetch8_banks (s : State) : s.fetch8.2.banks = s.banks := by
  simp [State.fetch8]
@[simp] theorem State.fetch8_dma (s : State) : s.fetch8.2.dma = s.dma := by
  simp [State.fetch8]
@[simp] theorem State.fetch8_ppu (s : State) : s.fetch8.2.ppu = s.ppu := by
  simp [State.fetch8]
@[simp] theorem State.fetch8_events (s : State) : s.fetch8.2.events = s.events := by
  simp [State.fetch8]

theorem State.fetch8_regs (s : State) : s.fetch8.2.regs = { s.regs with pc := s.regs.pc + 1 } := by
  simp [State.fetch8, State.setPc]

/-! ### fetchOpcode -/

@[simp] theorem State.fetchOpcode_cfg (s : State) : s.fetchOpcode.2.cfg = s.cfg := by
  unfold State.fetchOpcode; dsimp only; split <;> simp
@[simp] theorem State.fetchOpcode_ic (s : State) : s.fetchOpcode.2.ic = s.ic := by
  unfold State.fetchOpcode; dsimp only; split <;> simp
@[simp] theorem State.fetchOpcode_phase (s : State) : s.fetchOpcode.2.phase = s.phase := by
  unfold State.fetchOpcode; dsimp only; split <;> simp
@[simp] theorem State.fetchOpcode_clockCycle (s : State) : s.fetchOpcode.2.clockCycle = s.clockCycle := by
  unfold State.fetchOpcode; dsimp only; split <;> simp
@[simp] theorem State.fetchOpcode_latch (s : State) : s.fetchOpcode.2.latch = s.latch := by
  unfold State.fetchOpcode; dsimp only; split <;> simp
@[simp] theorem State.fetchOpcode_irq (s : State) : s.fetchOpcode.2.irq = s.irq := by
  unfold State.fetchOpcode; dsimp only; split <;> simp
@[simp] theorem State.fetchOpcode_speed (s : State) : s.fetchOpcode.2.speed = s.speed := by
  unfold State.fetchOpcode; dsimp only; split <;> simp
@[simp] theorem State.fetchOpcode_prepareSwitch (s : State) : s.fetchOpcode.2.prepareSwitch = s.prepareSwitch := by
  unfold State.fetchOpcode; dsimp only; split <;> simp
@[simp] theorem State.fetchOpcode_mem (s : State) : s.fetchOpcode.2.mem = s.mem := by
  unfold State.fetchOpcode; dsimp only; split <;> simp
@[simp] theorem State.fetchOpcode_bootRom (s : State) : s.fetchOpcode.2.bootRom = s.bootRom := by
  unfold State.fetchOpcode; dsimp only; split <;> simp
@[simp] theorem State.fetchOpcode_bootMapped (s : State) : s.fetchOpcode.2.bootMapped = s.bootMapped := by
  unfold State.fetchOpcode; dsimp only; split <;> simp
@[simp] theorem State.fetchOpcode_banks (s : State) : s.fetchOpcode.2.banks = s.banks := by
  unfold State.fetchOpcode; dsimp only; split <;> simp
@[simp] theorem State.fetchOpcode_dma (s : State) : s.fetchOpcode.2.dma = s.dma := by
  unfold State.fetchOpcode; dsimp only; split <;> simp
@[simp] theorem State.fetchOpcode_ppu (s : State) : s.fetchOpcode.2.ppu = s.ppu := by
  unfold State.fetchOpcode; dsimp only; split <;> simp
@[simp] theorem State.fetchOpcode_events (s : State) : s.fetchOpcode.2.events = s.events := by
  unfold State.fetchOpcode; dsimp only; split <;> simp

/-- The opcode fetch consumes the halt-bug flag. -/
@[simp] theorem State.fetchOpcode_haltBug (s : State) : s.fetchOpcode.2.haltBug = false := by
  unfold State.fetchOpcode; dsimp only; split <;> simp_all
theorem State.fetchOpcode_regs (s : State) :
    s.fetchOpcode.2.regs = { s.regs with pc := if s.haltBug then s.regs.pc else s.regs.pc + 1 } := by
  unfold State.fetchOpcode
  cases h : s.haltBug <;> simp [h, State.setPc]

/-! ### fetch -/

@[simp] theorem State.fetch_cfg (s : State) : s.fetch.st.cfg = s.cfg := by
  unfold State.fetch; dsimp only; split <;> simp
@[simp] theorem State.fetch_ic (s : State) : s.fetch.st.ic = s.ic := by
  unfold State.fetch; dsimp only; split <;> simp
@[simp] theorem State.fetch_phase (s : State) : s.fetch.st.phase = s.phase := by
  unfold State.fetch; dsimp only; split <;> simp
@[simp] theorem State.fetch_clockCycle (s : State) : s.fetch.st.clockCycle = s.clockCycle := by
  unfold State.fetch; dsimp only; split <;> simp
@[simp] theorem State.fetch_latch (s : State) : s.fetch.st.latch = s.latch := by
  unfold State.fetch; dsimp only; split <;> simp
@[simp] theorem State.fetch_irq (s : State) : s.fetch.st.irq = s.irq := by
  unfold State.fetch; dsimp only; split <;> simp
@[simp] theorem State.fetch_speed (s : State) : s.fetch.st.speed = s.speed := by
  unfold State.fetch; dsimp only; split <;> simp
@[simp] theorem State.fetch_prepareSwitch (s : State) : s.fetch.st.prepareSwitch = s.prepareSwitch := by
  unfold State.fetch; dsimp only; split <;> simp
@[simp] theorem State.fetch_mem (s : State) : s.fetch.st.mem = s.mem := by
  unfold State.fetch; dsimp only; split <;> simp
@[simp] theorem State.fetch_bootRom (s : State) : s.fetch.st.bootRom = s.bootRom := by
  unfold State.fetch; dsimp only; split <;> simp
@[simp] theorem State.fetch_bootMapped (s : State) : s.fetch.st.bootMapped = s.bootMapped := by
  unfold State.fetch; dsimp only; split <;> simp
@[simp] theorem State.fetch_banks (s : State) : s.fetch.st.banks = s.banks := by
  unfold State.fetch; dsimp only; split <;> simp
@[simp] theorem State.fetch_dma (s : State) : s.fetch.st.dma = s.dma := by
  unfold State.fetch; dsimp only; split <;> simp
@[simp] theorem State.fetch_ppu (s : State) : s.fetch.st.ppu = s.ppu := by
  unfold State.fetch; dsimp only; split <;> simp
@[simp] theorem State.fetch_events (s : State) : s.fetch.st.events = s.events := by
  unfold State.fetch; dsimp only; split <;> simp

@[simp] theorem State.fetch_haltBug (s : State) : s.fetch.st.haltBug = false := by
  unfold State.fetch; dsimp only; split <;> simp

/-- R27: all of an instruction's bytes fetched, pc is past them (one less under the halt bug, R151). -/
theorem State.fetch_regs (s : State) :
    s.fetch.st.regs = { s.regs with
      pc := s.regs.pc + (if s.haltBug then 0 else 1) + BitVec.ofNat 16 (bytesAfter s.fetch.b0) } := by
  have hb : ∀ b : Byte, bytesAfter b = 0 ∨ bytesAfter b = 1 ∨ bytesAfter b = 2 := by decide
  have h0 : s.fetch.b0 = s.fetchOpcode.1 := by unfold State.fetch; dsimp only; split <;> rfl
  rw [h0]
  rcases hb s.fetchOpcode.1 with h | h | h <;>
    (unfold State.fetch; simp only [h, State.fetch8_regs, State.fetchOpcode_regs]) <;>
    cases s.haltBug <;> simp <;> bv_omega

/-! ### dmaCopy -/

@[simp] theorem State.dmaCopy_cfg (s : State) (b k : Nat) : (s.dmaCopy b k).cfg = s.cfg := by
  induction k with
  | zero => rfl
  | succ k ih => exact ih
@[simp] theorem State.dmaCopy_regs (s : State) (b k : Nat) : (s.dmaCopy b k).regs = s.regs := by
  induction k with
  | zero => rfl
  | succ k ih => exact ih
@[simp] theorem State.dmaCopy_ic (s : State) (b k : Nat) : (s.dmaCopy b k).ic = s.ic := by
  induction k with
  | zero => rfl
  | succ k ih => exact ih
@[simp] theorem State.dmaCopy_phase (s : State) (b k : Nat) : (s.dmaCopy b k).phase = s.phase := by
  induction k with
  | zero => rfl
  | succ k ih => exact ih
@[simp] theorem State.dmaCopy_haltBug (s : State) (b k : Nat) : (s.dmaCopy b k).haltBug = s.haltBug := by
  induction k with
  | zero => rfl
  | succ k ih => exact ih
@[simp] theorem State.dmaCopy_clockCycle (s : State) (b k : Nat) : (s.dmaCopy b k).clockCycle = s.clockCycle := by
  induction k with
  | zero => rfl
  | succ k ih => exact ih
@[simp] theorem State.dmaCopy_latch (s : State) (b k : Nat) : (s.dmaCopy b k).latch = s.latch := by
  induction k with
  | zero => rfl
  | succ k ih => exact ih
@[simp] theorem State.dmaCopy_irq (s : State) (b k : Nat) : (s.dmaCopy b k).irq = s.irq := by
  induction k with
  | zero => rfl
  | succ k ih => exact ih
@[simp] theorem State.dmaCopy_speed (s : State) (b k : Nat) : (s.dmaCopy b k).speed = s.speed := by
  induction k with
  | zero => rfl
  | succ k ih => exact ih
@[simp] theorem State.dmaCopy_prepareSwitch (s : State) (b k : Nat) : (s.dmaCopy b k).prepareSwitch = s.prepareSwitch := by
  induction k with
  | zero => rfl
  | succ k ih => exact ih
@[simp] theorem State.dmaCopy_bootRom (s : State) (b k : Nat) : (s.dmaCopy b k).bootRom = s.bootRom := by
  induction k with
  | zero => rfl
  | succ k ih => exact ih
@[simp] theorem State.dmaCopy_bootMapped (s : State) (b k : Nat) : (s.dmaCopy b k).bootMapped = s.bootMapped := by
  induction k with
  | zero => rfl
  | succ k ih => exact ih
@[simp] theorem State.dmaCopy_banks (s : State) (b k : Nat) : (s.dmaCopy b k).banks = s.banks := by
  induction k with
  | zero => rfl
  | succ k ih => exact ih
@[simp] theorem State.dmaCopy_dma (s : State) (b k : Nat) : (s.dmaCopy b k).dma = s.dma := by
  induction k with
  | zero => rfl
  | succ k ih => exact ih
@[simp] theorem State.dmaCopy_ppu (s : State) (b k : Nat) : (s.dmaCopy b k).ppu = s.ppu := by
  induction k with
  | zero => rfl
  | succ k ih => exact ih
@[simp] theorem State.dmaCopy_events (s : State) (b k : Nat) : (s.dmaCopy b k).events = s.events := by
  induction k with
  | zero => rfl
  | succ k ih => exact ih
@[simp] theorem State.dmaCopy_draws (s : State) (b k : Nat) : (s.dmaCopy b k).draws = s.draws := by
  induction k with
  | zero => rfl
  | succ k ih => exact ih

/-! ### dmaAdvance -/

@[simp] theorem State.dmaAdvance_cfg (s : State) (n : Nat) : (s.dmaAdvance n).cfg = s.cfg := by
  unfold State.dmaAdvance; split
  · rfl
  · split <;> simp
@[simp] theorem State.dmaAdvance_regs (s : State) (n : Nat) : (s.dmaAdvance n).regs = s.regs := by
  unfold State.dmaAdvance; split
  · rfl
  · split <;> simp
@[simp] theorem State.dmaAdvance_ic (s : State) (n : Nat) : (s.dmaAdvance n).ic = s.ic := by
  unfold State.dmaAdvance; split
  · rfl
  · split <;> simp
@[simp] theorem State.dmaAdvance_phase (s : State) (n : Nat) : (s.dmaAdvance n).phase = s.phase := by
  unfold State.dmaAdvance; split
  · rfl
  · split <;> simp
@[simp] theorem State.dmaAdvance_haltBug (s : State) (n : Nat) : (s.dmaAdvance n).haltBug = s.haltBug := by
  unfold State.dmaAdvance; split
  · rfl
  · split <;> simp
@[simp] theorem State.dmaAdvance_clockCycle (s : State) (n : Nat) : (s.dmaAdvance n).clockCycle = s.clockCycle := by
  unfold State.dmaAdvance; split
  · rfl
  · split <;> simp
@[simp] theorem State.dmaAdvance_latch (s : State) (n : Nat) : (s.dmaAdvance n).latch = s.latch := by
  unfold State.dmaAdvance; split
  · rfl
  · split <;> simp
@[simp] theorem State.dmaAdvance_irq (s : State) (n : Nat) : (s.dmaAdvance n).irq = s.irq := by
  unfold State.dmaAdvance; split
  · rfl
  · split <;> simp
@[simp] theorem State.dmaAdvance_speed (s : State) (n : Nat) : (s.dmaAdvance n).speed = s.speed := by
  unfold State.dmaAdvance; split
  · rfl
  · split <;> simp
@[simp] theorem State.dmaAdvance_prepareSwitch (s : State) (n : Nat) : (s.dmaAdvance n).prepareSwitch = s.prepareSwitch := by
  unfold State.dmaAdvance; split
  · rfl
  · split <;> simp
@[simp] theorem State.dmaAdvance_bootRom (s : State) (n : Nat) : (s.dmaAdvance n).bootRom = s.bootRom := by
  unfold State.dmaAdvance; split
  · rfl
  · split <;> simp
@[simp] theorem State.dmaAdvance_bootMapped (s : State) (n : Nat) : (s.dmaAdvance n).bootMapped = s.bootMapped := by
  unfold State.dmaAdvance; split
  · rfl
  · split <;> simp
@[simp] theorem State.dmaAdvance_banks (s : State) (n : Nat) : (s.dmaAdvance n).banks = s.banks := by
  unfold State.dmaAdvance; split
  · rfl
  · split <;> simp
@[simp] theorem State.dmaAdvance_ppu (s : State) (n : Nat) : (s.dmaAdvance n).ppu = s.ppu := by
  unfold State.dmaAdvance; split
  · rfl
  · split <;> simp
@[simp] theorem State.dmaAdvance_events (s : State) (n : Nat) : (s.dmaAdvance n).events = s.events := by
  unfold State.dmaAdvance; split
  · rfl
  · split <;> simp
@[simp] theorem State.dmaAdvance_draws (s : State) (n : Nat) : (s.dmaAdvance n).draws = s.draws := by
  unfold State.dmaAdvance; split
  · rfl
  · split <;> simp

@[simp] theorem State.dmaAdvance_idle (s : State) (n : Nat) (h : s.dma = none) : s.dmaAdvance n = s := by
  simp [State.dmaAdvance, h]

end Sys2Proof.Machine
end

