-- ==== Sys2Proof/Laws/Exec.lean ====
section
/-! SUPPORT. Laws/Exec.lean: which shared meaning each family of constructors has, one lemma per family, so that a proof
about a family meets one case and not one per constructor; and the cases of a step. -/

namespace Sys2Proof.Machine

theorem exec_ldReg (d r : Reg8) (s : State) : exec (Instr.ldReg d r) s = moveReg d r s := by
  cases d <;> cases r <;> rfl

theorem exec_ldFromHL (d : Reg8) (s : State) : exec (Instr.ldFromHL d) s = loadFromHL d s := by cases d <;> rfl

theorem exec_ldToHL (r : Reg8) (s : State) : exec (Instr.ldToHL r) s = storeToHL (s.r8 r) s := by cases r <;> rfl

theorem exec_ldImm (d : Reg8) (n : Byte) (s : State) : exec (Instr.ldImm (.reg d) n) s = loadImm8 d n s := by
  cases d <;> rfl

theorem exec_ldImm16 (r : Reg16) (nn : Word) (s : State) : exec (Instr.ldImm16 r nn) s = loadImm16 r nn s := by
  cases r <;> rfl

theorem exec_push (r : StackPair) (s : State) : exec (Instr.push r) s = pushPair r s := by cases r <;> rfl

theorem exec_pop (r : StackPair) (s : State) : exec (Instr.pop r) s = popPair r s := by cases r <;> rfl

theorem exec_alu (op : AluOp) (x : Operand8) (s : State) : exec (Instr.alu op x) s = aluOn op x s := by
  cases op <;> rcases x with (_ | _ | _ | _ | _ | _ | _) | _ <;> rfl

theorem exec_aluImm (op : AluOp) (n : Byte) (s : State) : exec (Instr.aluImm op n) s = aluOnImm op n s := by
  cases op <;> rfl

theorem exec_inc8 (x : Operand8) (s : State) : exec (Instr.inc8 x) s = increment8 x s := by
  rcases x with (_ | _ | _ | _ | _ | _ | _) | _ <;> rfl

theorem exec_dec8 (x : Operand8) (s : State) : exec (Instr.dec8 x) s = decrement8 x s := by
  rcases x with (_ | _ | _ | _ | _ | _ | _) | _ <;> rfl

theorem exec_addHL (r : Reg16) (s : State) : exec (Instr.addHL r) s = addToHL r s := by cases r <;> rfl

theorem exec_inc16 (r : Reg16) (s : State) : exec (Instr.inc16 r) s = increment16 r s := by cases r <;> rfl

theorem exec_dec16 (r : Reg16) (s : State) : exec (Instr.dec16 r) s = decrement16 r s := by cases r <;> rfl

theorem exec_rot (op : RotOp) (x : Operand8) (s : State) : exec (Instr.rot op x) s = rotate op x s := by
  cases op <;> rcases x with (_ | _ | _ | _ | _ | _ | _) | _ <;> rfl

theorem exec_bitOp (b : Fin 8) (x : Operand8) (s : State) : exec (Instr.bitOp b x) s = testBit b x s := by
  fin_cases b <;> rcases x with (_ | _ | _ | _ | _ | _ | _) | _ <;> rfl

theorem exec_resOp (b : Fin 8) (x : Operand8) (s : State) : exec (Instr.resOp b x) s = clearBit b x s := by
  fin_cases b <;> rcases x with (_ | _ | _ | _ | _ | _ | _) | _ <;> rfl

theorem exec_setOp (b : Fin 8) (x : Operand8) (s : State) : exec (Instr.setOp b x) s = raiseBit b x s := by
  fin_cases b <;> rcases x with (_ | _ | _ | _ | _ | _ | _) | _ <;> rfl

theorem exec_jrCond (cc : Cond) (e : Byte) (s : State) : exec (Instr.jrCond cc e) s = jumpByIf cc e s := by
  cases cc <;> rfl

theorem exec_jpCond (cc : Cond) (nn : Word) (s : State) : exec (Instr.jpCond cc nn) s = jumpIf cc nn s := by
  cases cc <;> rfl

theorem exec_callCond (cc : Cond) (nn : Word) (s : State) : exec (Instr.callCond cc nn) s = callIf cc nn s := by
  cases cc <;> rfl

theorem exec_retCond (cc : Cond) (s : State) : exec (Instr.retCond cc) s = returnIf cc s := by cases cc <;> rfl

theorem exec_rst (t : Fin 8) (s : State) : exec (Instr.rst t) s = restart t s := by fin_cases t <;> rfl

/-- What the CPU alone does at a boundary is a dispatch, an instruction or nothing. -/
theorem cpuStep_cases {s : State} (h : s.phase.idle = true) :
    (s.ic.accepts = true ∧ cpuStep s = .next (takeInterrupt s)) ∨
    (s.ic.accepts = false ∧ s.phase = .opcode ∧ cpuStep s = instructionStep s) ∨
    (s.ic.accepts = false ∧ s.phase = .halted ∧ s.ic.requested = true ∧
      cpuStep s = instructionStep { s with phase := .opcode }) ∨
    (s.ic.accepts = false ∧ (s.phase = .stopped ∨ s.phase = .halted ∧ s.ic.requested = false) ∧
      cpuStep s = .next s) := by
  unfold cpuStep
  cases hp : s.phase <;> simp [hp, Phase.idle] at h <;> cases ha : s.ic.accepts <;> simp
  cases s.ic.requested <;> simp

/-- A step at a boundary is what the CPU alone does, where no OAM DMA is in progress before or after it, or is taken M-cycle
by M-cycle. -/
theorem step_cases {s : State} (h : s.phase.idle = true) :
    (s.dma = none ∧ step s = cpuStep s ∧ ∀ t, cpuStep s = .next t → t.dma = none) ∨ step s = timedStep s := by
  rw [step, if_pos h]
  unfold boundaryStep
  cases hd : s.dma with
  | some d => exact .inr rfl
  | none =>
    cases hc : cpuStep s with
    | next t => cases ht : t.dma <;> simp [ht]
    | fault e => exact .inl ⟨rfl, rfl, by simp⟩
    | refused e => exact .inl ⟨rfl, rfl, by simp⟩

/-- Where no OAM DMA is in progress before or after it, a step is what the CPU alone does. -/
theorem step_eq_cpuStep {s : State} (h : s.phase.idle = true) (hd : s.dma = none)
    (ht : ∀ t, cpuStep s = .next t → t.dma = none) : step s = cpuStep s := by
  rw [step, if_pos h]
  unfold boundaryStep
  rw [hd]
  cases hc : cpuStep s with
  | next t => simp [ht t hc]
  | fault e => rfl
  | refused e => rfl

/-- While an OAM DMA is in progress a step is taken M-cycle by M-cycle. -/
theorem step_eq_timedStep {s : State} (h : s.phase.idle = true) (hd : s.dma.isSome = true) : step s = timedStep s := by
  rw [step, if_pos h]
  unfold boundaryStep
  cases hs : s.dma with
  | none => rw [hs] at hd; cases hd
  | some d => rfl

/-! ### The OAM DMA beside the CPU -/

/-- The window counts ticks: `m` of them and then `n` are `m + n`. -/
theorem State.dmaAdvance_add (s : State) (m n : Nat) : (s.dmaAdvance m).dmaAdvance n = s.dmaAdvance (m + n) := by
  cases hd : s.dma with
  | none => simp [State.dmaAdvance, hd]
  | some d =>
    by_cases h : d.ticksLeft ≤ m
    · have : d.ticksLeft ≤ m + n := by omega
      simp [State.dmaAdvance, hd, h, this]
    · by_cases h' : d.ticksLeft - m ≤ n
      · have : d.ticksLeft ≤ m + n := by omega
        simp [State.dmaAdvance, hd, h, h', this]
      · have : ¬d.ticksLeft ≤ m + n := by omega
        simp [State.dmaAdvance, hd, h, h', this, Nat.sub_sub]

/-- What every M-cycle keeps, M-cycles up to a boundary keep. -/
theorem mCycles_keeps {P : State → Prop} (h : ∀ s t, P s → mCycle s = .next t → P t) (n : Nat) :
    ∀ {s t : State}, P s → mCycles n s = .next t → P t := by
  induction n with
  | zero => intro s t hs ht; cases ht; exact hs
  | succ n ih =>
    intro s t hs ht
    unfold mCycles at ht
    cases hm : mCycle s with
    | next u =>
      rw [hm] at ht
      dsimp only at ht
      split at ht
      · cases ht; exact h s _ hs hm
      · exact ih (h s u hs hm) ht
    | fault e => rw [hm] at ht; cases ht
    | refused e => rw [hm] at ht; cases ht

/-- What the CPU's own step and every M-cycle keep, and the instruction latches do not matter to, a step from a boundary
keeps. -/
theorem step_keeps {P : State → Prop} (hl : ∀ s l, P s → P { s with latch := l })
    (hm : ∀ s t, P s → mCycle s = .next t → P t) (hc : ∀ s t, s.phase.idle = true → P s → cpuStep s = .next t → P t)
    {s t : State} (hi : s.phase.idle = true) (hs : P s) (ht : step s = .next t) : P t := by
  rcases step_cases hi with ⟨_, e, _⟩ | e
  · exact hc s t hi hs (e ▸ ht)
  · rw [e, timedStep] at ht
    cases hr : mCycles mCycleFuel s with
    | next u => rw [hr] at ht; cases ht; exact hl u _ (mCycles_keeps hm _ hs hr)
    | fault e => rw [hr] at ht; cases ht
    | refused e => rw [hr] at ht; cases ht

end Sys2Proof.Machine
end

