-- ==== Sys2Proof/Laws/Frames.lean ====
section
/-! SUPPORT. Laws/Frames.lean: how the frames of Safety.lean are met: an instruction that stores nothing, one that stores one
byte, a push, a pop, an OAM check; and the duration of an instruction by its opcode byte. -/

namespace Sys2Proof.Machine

/-! ### Durations -/

theorem State.cycles_plain (s : State) {b0 : Byte} (b1 : Byte) (h : b0 ≠ 0xCB) (hc : isConditional b0 = false) :
    s.cycles b0 b1 = primaryCycles b0 := by
  simp only [State.cycles, if_neg h, hc, Bool.false_and, Bool.false_eq_true, if_false]

theorem State.cycles_conditional (s : State) {b0 : Byte} (b1 : Byte) (h : b0 ≠ 0xCB) (hc : isConditional b0 = true) :
    s.cycles b0 b1 = if s.cond (condOf (fieldY b0 % 4)) then primaryCycles b0 else notTakenCycles b0 := by
  simp only [State.cycles, h, hc, if_false, State.condTaken, Bool.true_and]
  cases s.cond (condOf (fieldY b0 % 4)) <;> rfl

theorem State.cycles_cb (s : State) (b1 : Byte) : s.cycles 0xCB b1 = cbCycles b1 := if_pos rfl

/-- A plain instruction's form, from three closed facts about its opcode byte. -/
theorem Form.plain {i : Instr} {b0 : Byte} {rest : List Byte} {m : Nat} (hd : decode (b0 :: rest) = .ok (i, []))
    (h : (b0 ≠ 0xCB ∧ isConditional b0 = false) ∧ primaryCycles b0 = m) : Form i (b0 :: rest) m :=
  ⟨hd, fun s => (State.cycles_plain s _ h.1.1 h.1.2).trans h.2⟩

theorem Form.cb {i : Instr} {b1 : Byte} {m : Nat} (hd : decode [0xCB, b1] = .ok (i, [])) (h : cbCycles b1 = m) :
    Form i [0xCB, b1] m := ⟨hd, fun s => (State.cycles_cb s b1).trans h⟩

/-- As `Form.plain`, for an instruction with a 16-bit operand. -/
theorem Form.word (f : Word → Instr) {b0 : Byte} {nn : Word} {m : Nat}
    (hd : decode [b0, loByte nn, hiByte nn] = .ok (f (pairOf (hiByte nn) (loByte nn)), []))
    (h : (b0 ≠ 0xCB ∧ isConditional b0 = false) ∧ primaryCycles b0 = m) : Form (f nn) [b0, loByte nn, hiByte nn] m :=
  Form.plain (by rwa [pairOf_bytes] at hd) h

/-- A conditional instruction's form, from closed facts about its opcode byte. -/
theorem CondForm.of {i : Instr} {cc : Cond} {b0 : Byte} {rest : List Byte} {m n : Nat}
    (hd : decode (b0 :: rest) = .ok (i, []))
    (h : ((b0 ≠ 0xCB ∧ isConditional b0 = true) ∧ condOf (fieldY b0 % 4) = cc) ∧
      primaryCycles b0 = m ∧ notTakenCycles b0 = n) : CondForm i cc (b0 :: rest) m n := by
  refine ⟨hd, fun s => (State.cycles_conditional s _ h.1.1.1 h.1.1.2).trans ?_⟩
  rw [h.1.2, h.2.1, h.2.2]

theorem CondForm.word (f : Word → Instr) {cc : Cond} {b0 : Byte} {nn : Word} {m n : Nat}
    (hd : decode [b0, loByte nn, hiByte nn] = .ok (f (pairOf (hiByte nn) (loByte nn)), []))
    (h : ((b0 ≠ 0xCB ∧ isConditional b0 = true) ∧ condOf (fieldY b0 % 4) = cc) ∧
      primaryCycles b0 = m ∧ notTakenCycles b0 = n) : CondForm (f nn) cc [b0, loByte nn, hiByte nn] m n :=
  CondForm.of (by rwa [pairOf_bytes] at hd) h

/-! ### Frames -/

theorem State.busRead_draws (s : State) (a : Word) : (s.busRead a).2 = { s with draws := (s.busRead a).2.draws } := by
  rcases s.busRead_frame a with h | h <;> rw [h]

/-- A bus write does not look at the registers or at the free values used. -/
theorem State.busWrite_with (s : State) (r : Regs) (n : Nat) (a : Word) (v : Byte) :
    ({ s with regs := r, draws := n } : State).busWrite a v = { s.busWrite a v with regs := r, draws := n } := by
  have h : ({ s with regs := r, draws := n } : State).place a = s.place a := State.place_congr rfl rfl rfl rfl a
  unfold State.busWrite
  rw [h]
  split <;> rfl

/-- An OAM check does not look at the registers. -/
theorem State.oamCheck_withRegs (s : State) (r : Regs) (ty : OamType) (v : Word) :
    ({ s with regs := r } : State).oamCheck ty v = { s.oamCheck ty v with regs := r } := by
  have free : ∀ k : Nat, ∀ u : State, ({ u with regs := r } : State).oamFree k = { u.oamFree k with regs := r } := by
    intro k
    induction k with
    | zero => intro u; rfl
    | succ k ih => intro u; simp only [State.oamFree, ih u]
  unfold State.oamCheck
  split
  · rename_i h
    rw [if_pos (show (inOamPage v && s.oamWindow) = true from h)]
    dsimp only
    split
    · rfl
    · exact free 160 (s.emit (.oamCorrupt ty))
  · rename_i h
    rw [if_neg (show ¬(inOamPage v && s.oamWindow) = true from h)]

/-- A bus read does not look at the registers. -/
theorem State.busRead_withRegs (s : State) (r : Regs) (a : Word) :
    ({ s with regs := r } : State).busRead a = ((s.busRead a).1, { (s.busRead a).2 with regs := r }) := by
  have h : ({ s with regs := r } : State).place a = s.place a := State.place_congr rfl rfl rfl rfl a
  unfold State.busRead
  rw [h]
  split <;> rfl

/-- A bus write does not look at the registers. -/
theorem State.busWrite_withRegs (s : State) (r : Regs) (a : Word) (v : Byte) :
    ({ s with regs := r } : State).busWrite a v = { s.busWrite a v with regs := r } := by
  have h : ({ s with regs := r } : State).place a = s.place a := State.place_congr rfl rfl rfl rfl a
  unfold State.busWrite
  rw [h]
  split <;> rfl

/-- One byte of a push is the check and the bus write, with SP one lower. -/
theorem State.pushByte_eq (s : State) (r : Regs) (ty : OamType) (v : Byte) :
    ({ s with regs := r } : State).pushByte ty v =
      { (s.oamCheck ty r.sp).busWrite (r.sp - 1) v with regs := { r with sp := r.sp - 1 } } := by
  rw [State.pushByte, State.oamCheck_withRegs]
  exact State.busWrite_withRegs (s.oamCheck ty r.sp) _ _ _

/-- R66: the first byte of a push. -/
theorem State.pushByte_first (s : State) (v : Word) :
    s.pushByte .push1 (hiByte v) = { (pushWrites s v).1 with regs := { s.regs with sp := s.regs.sp - 1 } } :=
  State.pushByte_eq s s.regs .push1 (hiByte v)

/-- R66: a push is its two bus writes, with SP two lower. -/
theorem State.push16_eq (s : State) (v : Word) :
    s.push16 v = { (pushWrites s v).2 with regs := { s.regs with sp := s.regs.sp - 2 } } := by
  have hsp : s.regs.sp - 1 - 1 = s.regs.sp - 2 := by bv_omega
  rw [State.push16, State.pushByte_first, State.pushByte_eq]
  dsimp only
  rw [hsp]
  rfl

/-- One byte of a pop is the check and the bus read, with SP one higher. -/
theorem State.popByte_eq (s : State) (r : Regs) (ty : OamType) :
    ({ s with regs := r } : State).popByte ty =
      (((s.oamCheck ty r.sp).busRead r.sp).1,
        { ((s.oamCheck ty r.sp).busRead r.sp).2 with regs := { r with sp := r.sp + 1 } }) := by
  rw [State.popByte, State.oamCheck_withRegs]
  dsimp only
  rw [State.busRead_withRegs]
  rfl

/-- R67: a pop is its two bus reads, with SP two higher. -/
theorem State.pop16_eq (s : State) :
    s.pop16 = ((popReads s).1, { (popReads s).2 with regs := { s.regs with sp := s.regs.sp + 2 } }) := by
  have hsp : s.regs.sp + 1 + 1 = s.regs.sp + 2 := by bv_omega
  rw [State.pop16, show s.popByte .pop1 = _ from State.popByte_eq s s.regs .pop1]
  dsimp only
  rw [State.popByte_eq]
  dsimp only
  rw [hsp]
  rfl

theorem QuietFrame.of {s u : State} (h : u = { s with regs := u.regs, draws := u.draws }) :
    QuietFrame s u.instructionFinished := by
  rw [h]
  exact ⟨⟨rfl, rfl, rfl, rfl, rfl, rfl, rfl, rfl, rfl⟩, ⟨rfl, rfl, rfl, rfl, rfl⟩, fun _ => rfl, rfl⟩

theorem StoreFrame.of {s u : State} (w : s.mem.wf = true) {a : Word} {v : Byte}
    (h : u = { s with regs := u.regs, draws := u.draws }) : StoreFrame s a v (u.busWrite a v).instructionFinished := by
  rw [h, State.busWrite_with]
  refine ⟨?_, ⟨rfl, rfl, rfl, rfl, rfl⟩, rfl, fun k => State.busWrite_read s w a v k⟩
  simp [SameInternal]

/-- A register write reaches the registers only. -/
theorem State.setR8_eq (s : State) (r : Reg8) (v : Byte) : s.setR8 r v = { s with regs := (s.setR8 r v).regs } := by
  cases r <;> rfl

theorem State.setR16_eq (s : State) (r : Reg16) (v : Word) : s.setR16 r v = { s with regs := (s.setR16 r v).regs } := by
  cases r <;> rfl

theorem State.setPair_eq (s : State) (r : StackPair) (v : Word) : s.setPair r v = { s with regs := (s.setPair r v).regs } := by
  cases r <;> rfl

/-! ### IE and IF -/

theorem State.place_ie (s : State) : s.place 0xFFFF = .ieReg := by
  unfold State.place State.flatPlace State.gameBoyPlace
  split <;> rfl

theorem State.place_if (s : State) : s.place 0xFF0F = .ifReg := by
  unfold State.place State.flatPlace State.gameBoyPlace
  split <;> rfl

theorem State.busRead_ie (s : State) : s.busRead 0xFFFF = (s.ic.ie, s) := by rw [State.busRead, State.place_ie]

theorem State.busRead_if (s : State) : s.busRead 0xFF0F = (s.ic.ifByte, s) := by rw [State.busRead, State.place_if]

theorem State.busWrite_ie (s : State) (v : Byte) : s.busWrite 0xFFFF v = { s with ic := { s.ic with ie := v } } := by
  rw [State.busWrite, State.place_ie]

theorem State.busWrite_if (s : State) (v : Byte) :
    s.busWrite 0xFF0F v = { s with ic := { s.ic with ifr := v.extractLsb' 0 5 } } := by
  rw [State.busWrite, State.place_if]

/-! ### Memory cells -/

theorem State.place_of_storeCell {s : State} {a : Word} {k : Nat} (h : s.storeCell a = some k) : s.place a = .ram k := by
  revert h
  unfold State.storeCell
  split <;> simp_all

/-- R60: a store that lands in a cell. -/
theorem State.busWrite_cell {s : State} {a : Word} {k : Nat} (h : s.storeCell a = some k) (v : Byte) :
    s.busWrite a v = { s with mem := s.mem.write k v } := by
  rw [State.busWrite, State.place_of_storeCell h]

/-- R60: a load from a cell. -/
theorem State.busRead_cell {s : State} {a : Word} {k : Nat} (h : s.storeCell a = some k) :
    s.busRead a = (s.mem.read k, s) := by
  rw [State.busRead, State.place_of_storeCell h]

/-! ### The OAM check, pushes and pops -/

theorem State.oamWindow_congr {s t : State} (hc : t.cfg = s.cfg) (hp : t.ppu = s.ppu) : t.oamWindow = s.oamWindow := by
  simp [State.oamWindow, hc, hp]

theorem OamKept.congr {s t : State} (hc : t.cfg = s.cfg) (hp : t.ppu = s.ppu) {v : Word} {k : Nat}
    (h : OamKept s v k) : OamKept t v k := by
  simpa only [OamKept, State.oamWindow_congr hc hp, hc] using h

/-- R156: the check keeps the bytes it cannot corrupt. -/
theorem State.oamCheck_kept (s : State) (w : s.mem.wf = true) (ty : OamType) (v : Word) {k : Nat} (h : OamKept s v k) :
    (s.oamCheck ty v).mem.read k = s.mem.read k := by
  rcases h with h | h | h | h
  · rw [State.oamCheck_outside s ty v h]
  · rw [State.oamCheck_closed s ty v h]
  · unfold State.oamCheck
    split
    · simp only [h]; rfl
    · rfl
  · exact State.oamCheck_read s w ty v k h

theorem CheckFrame.of {s u : State} (w : s.mem.wf = true) {ty : OamType} {v : Word}
    (h : u = { s.oamCheck ty v with regs := u.regs, draws := u.draws }) : CheckFrame s ty v u.instructionFinished := by
  rw [h]
  refine ⟨?_, ⟨rfl, rfl, rfl, rfl, rfl⟩, ?_, fun k hk => State.oamCheck_kept s w ty v hk⟩
  · simp [SameInternal]
  · simp

theorem State.pushByte_read (s : State) (w : s.mem.wf = true) (ty : OamType) (v : Byte) (k : Nat) :
    (s.pushByte ty v).mem.read k =
      if s.storeCell (s.regs.sp - 1) = some k then v else (s.oamCheck ty s.regs.sp).mem.read k := by
  have hc : ((s.oamCheck ty s.regs.sp).setSp (s.regs.sp - 1)).storeCell (s.regs.sp - 1) = s.storeCell (s.regs.sp - 1) :=
    State.storeCell_congr (by simp) (by simp) (by simp) (by simp) _
  have h := State.busWrite_read ((s.oamCheck ty s.regs.sp).setSp (s.regs.sp - 1))
    (by simpa using State.oamCheck_wf s w ty s.regs.sp) (s.regs.sp - 1) v k
  rw [hc] at h
  simpa [State.pushByte] using h

/-- R66: the bytes a push leaves. -/
theorem State.push16_bytes (s : State) (w : s.mem.wf = true) (v : Word) : PushedBytes s v (s.push16 v) := by
  have wm := State.pushByte_wf s w .push1 (hiByte v)
  have h2 := State.pushByte_read (s.pushByte .push1 (hiByte v)) wm .push2 (loByte v)
  have hsp : s.regs.sp - 1 - 1 = s.regs.sp - 2 := by bv_omega
  have hc : (s.pushByte .push1 (hiByte v)).storeCell (s.regs.sp - 2) = (pushWrites s v).1.storeCell (s.regs.sp - 2) := by
    rw [State.pushByte_first]
    exact State.storeCell_congr rfl rfl rfl rfl _
  rw [State.pushByte_sp, hsp, hc] at h2
  refine ⟨fun k hk => ?_, fun k h h' => ?_⟩
  · exact (h2 k).trans (if_pos hk)
  · refine (h2 k).trans ?_
    rw [State.oamCheck_kept _ wm _ _ (h'.congr (by simp) (by simp)), State.pushByte_read s w,
      State.oamCheck_kept s w _ _ h]

theorem PushFrame.of {s u : State} (w : s.mem.wf = true) {v : Word}
    (h : u = { s.push16 v with regs := u.regs, draws := u.draws }) : PushFrame s v u.instructionFinished := by
  have hb := State.push16_bytes s w v
  have hi : SameInternal s (s.push16 v) := by simp [SameInternal]
  rw [h]
  rw [State.push16_eq] at hb hi ⊢
  exact ⟨hi, ⟨rfl, rfl, rfl, rfl, rfl⟩, rfl, hb⟩

theorem State.popByte_mem (s : State) (ty : OamType) : (s.popByte ty).2.mem = (s.oamCheck ty s.regs.sp).mem := by
  simp [State.popByte]

theorem PopFrame.of {s u : State} (w : s.mem.wf = true)
    (h : u = { s.pop16.2 with regs := u.regs, draws := u.draws, ic := u.ic }) : PopFrame s u := by
  rw [h]
  refine ⟨?_, by rw [State.pop16_eq]; exact ⟨rfl, rfl, rfl, rfl, rfl⟩, fun k hk hk' => ?_⟩
  · simp [SameInternal]
  · show s.pop16.2.mem.read k = _
    have w1 := State.popByte_wf s w .pop1
    have hsp : (s.popByte .pop1).2.regs.sp = s.regs.sp + 1 := by rw [State.popByte_regs]
    simp only [State.pop16, State.popByte_mem]
    rw [State.oamCheck_kept _ w1 _ _ (by rw [hsp]; exact hk'.congr (by simp) (by simp)), State.popByte_mem,
      State.oamCheck_kept s w _ _ hk]

/-- A push of one byte where no check fires and the byte lands in a cell. -/
theorem State.pushByte_cell {s : State} {k : Nat} (ho : s.oamWindow = false)
    (h : s.storeCell (s.regs.sp - 1) = some k) (ty : OamType) (v : Byte) :
    s.pushByte ty v = { s with regs := { s.regs with sp := s.regs.sp - 1 }, mem := s.mem.write k v } := by
  rw [State.pushByte, State.oamCheck_closed _ _ _ ho]
  exact State.busWrite_cell (s := s.setSp (s.regs.sp - 1)) ((State.storeCell_congr rfl rfl rfl rfl _).trans h) v

/-- A pop of one byte where no check fires and the byte comes from a cell. -/
theorem State.popByte_cell {s : State} {k : Nat} (ho : s.oamWindow = false) (h : s.storeCell s.regs.sp = some k)
    (ty : OamType) :
    s.popByte ty = (s.mem.read k, { s with regs := { s.regs with sp := s.regs.sp + 1 } }) := by
  rw [State.popByte, State.oamCheck_closed _ _ _ ho]
  simp only [State.busRead_cell h, State.setSp]

/-- R66 where no check fires and the two bytes land in cells. -/
theorem State.push16_cell {s : State} {a b : Nat} (ho : s.oamWindow = false)
    (ha : s.storeCell (s.regs.sp - 1) = some a) (hb : s.storeCell (s.regs.sp - 2) = some b) (v : Word) :
    s.push16 v = { s with
      regs := { s.regs with sp := s.regs.sp - 2 }
      mem := (s.mem.write a (hiByte v)).write b (loByte v) } := by
  have hsp : s.regs.sp - 1 - 1 = s.regs.sp - 2 := by bv_omega
  rw [State.push16, State.pushByte_cell ho ha]
  refine (State.pushByte_cell (s := { s with
    regs := { s.regs with sp := s.regs.sp - 1 }, mem := s.mem.write a (hiByte v) }) (k := b) ho ?_ .push2 _).trans ?_
  · exact (State.storeCell_congr (s := s) rfl rfl rfl rfl _).trans (hsp.symm ▸ hb)
  · simp only [hsp]

/-- R67 where no check fires and the two bytes come from cells. -/
theorem State.pop16_cell {s : State} {a b : Nat} (ho : s.oamWindow = false) (hb : s.storeCell s.regs.sp = some b)
    (ha : s.storeCell (s.regs.sp + 1) = some a) :
    s.pop16 = (pairOf (s.mem.read a) (s.mem.read b), { s with regs := { s.regs with sp := s.regs.sp + 2 } }) := by
  have hsp : s.regs.sp + 1 + 1 = s.regs.sp + 2 := by bv_omega
  have h2 := State.popByte_cell (s := { s with regs := { s.regs with sp := s.regs.sp + 1 } }) ho
    ((State.storeCell_congr rfl rfl rfl rfl _).trans ha) .pop2
  simp only [State.pop16, State.popByte_cell ho hb, h2, hsp]

end Sys2Proof.Machine
end

