-- ==== Sys2Proof/Laws/Invariant.lean ====
section
/-! SUPPORT. Laws/Invariant.lean: each shared operation keeps the data part of the invariant, and what every instruction that
ends through its micro-ops leaves alone. -/

namespace Sys2Proof.Machine

/-! ### Memory inside the address space -/

theorem ioPlace_ne_ram (g : Bool) (n k : Nat) : ioPlace g n ≠ .ram k := by
  unfold ioPlace
  repeat' split
  all_goals simp

/-- The registers that only a CGB has in the model's own state. -/
def Place.cgbOnly (p : Place) : Prop := p = .key1 ∨ p = .vramBank ∨ p = .wramBank

theorem ioPlace_cgb {g : Bool} {n : Nat} (h : (ioPlace g n).cgbOnly) : g = true := by
  by_contra hn
  have hg : g = false := by simpa using hn
  revert h
  unfold ioPlace Place.cgbOnly
  rw [hg]
  repeat' split
  all_goals simp_all

theorem State.vramCell_lt (s : State) {n : Nat} (h : n < 0xA000) : s.vramCell n < 0x18000 := by
  unfold State.vramCell
  split <;> omega

theorem State.wramCell_lt (s : State) {n : Nat} (h : n < 0xE000) : s.wramCell n < 0x18000 := by
  have := s.banks.wram.isLt
  unfold State.wramCell
  split <;> omega

theorem State.place_ram_lt {s : State} {a : Word} {k : Nat} (h : s.place a = .ram k) : k < 0x18000 := by
  have ha := a.isLt
  unfold State.place at h
  cases hb : s.cfg.bus with
  | flat =>
    simp only [hb, State.flatPlace] at h
    repeat' split at h
    all_goals simp at h
    omega
  | gameBoy =>
    simp only [hb, State.gameBoyPlace] at h
    repeat' split at h
    all_goals first
      | (simp at h; omega)
      | exact Place.ram.inj h ▸ s.vramCell_lt (by omega)
      | exact Place.ram.inj h ▸ s.wramCell_lt (by omega)
      | simp at h
      | exact absurd h (ioPlace_ne_ram _ _ _)

theorem State.storeCell_lt {s : State} {a : Word} {k : Nat} (h : s.storeCell a = some k) : k < 0x18000 :=
  State.place_ram_lt (State.place_of_storeCell h)

/-- Only a CGB has KEY1 and the bank registers. -/
theorem State.place_cgb {s : State} {a : Word} (h : (s.place a).cgbOnly) : s.cfg.gbc = true := by
  unfold State.place at h
  cases hb : s.cfg.bus with
  | flat =>
    simp only [hb, State.flatPlace] at h
    repeat' split at h
    all_goals simp_all [Place.cgbOnly]
  | gameBoy =>
    simp only [hb, State.gameBoyPlace] at h
    repeat' split at h
    all_goals first | exact ioPlace_cgb h | simp [Place.cgbOnly] at h

theorem Memory.write_inSpace {m : Memory} {k : Nat} {v : Byte} (h : ∀ c ∈ m, c.1 < 0x18000) (hk : k < 0x18000) :
    ∀ c ∈ m.write k v, c.1 < 0x18000 := by
  intro c hc
  rcases Memory.mem_write hc with hc | hc
  · exact h c hc
  · exact hc ▸ hk

/-! ### The data part of the invariant -/

/-- The data part looks at these fields only. -/
theorem State.DataInv.congr {s t : State} (h : s.DataInv) (hc : t.cfg = s.cfg) (hf : t.regs.f = s.regs.f)
    (hi : t.ic.pendingEnable = none ∨ t.ic.pendingDisable = none) (hk : t.clockCycle = s.clockCycle)
    (hs : t.speed = s.speed) (hp : t.prepareSwitch = s.prepareSwitch) (hr : t.banks = s.banks) (hm : t.mem = s.mem) (hb : t.bootRom = s.bootRom)
    (hd : t.dma = s.dma) : t.DataInv :=
  { memCanonical := hm ▸ h.memCanonical
    memInSpace := hm ▸ h.memInSpace
    bootCanonical := hb ▸ h.bootCanonical
    flagsLow := hf ▸ h.flagsLow
    divider := by rw [hk, hs]; exact h.divider
    speedDmg := by rw [hc, hs, hp]; exact h.speedDmg
    banksDmg := by rw [hc, hr]; exact h.banksDmg
    oneCounter := hi
    dmaWindow := by rw [hd]; exact h.dmaWindow }

theorem State.DataInv.withMem {s : State} (h : s.DataInv) {m : Memory} (w : m.wf = true)
    (i : ∀ c ∈ m, c.1 < 0x18000) : ({ s with mem := m } : State).DataInv :=
  { h with memCanonical := w, memInSpace := i }

theorem State.DataInv.setR8 {s : State} (h : s.DataInv) (r : Reg8) (v : Byte) : (s.setR8 r v).DataInv :=
  h.congr (by simp) (by simp) (by simpa using h.oneCounter) (by simp) (by simp) (by simp) (by simp) (by simp) (by simp) (by simp)

theorem State.DataInv.setR16 {s : State} (h : s.DataInv) (r : Reg16) (v : Word) : (s.setR16 r v).DataInv := by
  rw [State.setR16_eq]
  exact h.congr rfl (by simp) h.oneCounter rfl rfl rfl rfl rfl rfl rfl

theorem State.DataInv.setF {s : State} (h : s.DataInv) (v : Byte) : (s.setF v).DataInv :=
  { h with flagsLow := maskF_low v }

theorem State.DataInv.setPair {s : State} (h : s.DataInv) (r : StackPair) (v : Word) : (s.setPair r v).DataInv := by
  cases r with
  | BC => exact h.setR16 .BC v
  | DE => exact h.setR16 .DE v
  | HL => exact h.setR16 .HL v
  | AF => exact { h with flagsLow := maskF_low _ }

theorem State.DataInv.setSp {s : State} (h : s.DataInv) (v : Word) : (s.setSp v).DataInv := h.setR16 .SP v

theorem State.DataInv.setPc {s : State} (h : s.DataInv) (v : Word) : (s.setPc v).DataInv := { h with }

theorem State.DataInv.setAF {s : State} (h : s.DataInv) (o : AluOut) : (s.setAF o).DataInv := (h.setR8 _ _).setF _

theorem State.DataInv.busRead {s : State} (h : s.DataInv) (a : Word) : (s.busRead a).2.DataInv := by
  rcases s.busRead_frame a with e | e <;> rw [e]
  · exact h
  · exact { h with }

theorem State.DataInv.busWrite {s : State} (h : s.DataInv) (a : Word) (v : Byte) : (s.busWrite a v).DataInv := by
  unfold State.busWrite
  split
  · rename_i k hk
    have hc : s.storeCell a = some k := by simp [State.storeCell, hk]
    exact h.withMem (Memory.write_wf _ _ h.memCanonical) (Memory.write_inSpace h.memInSpace (State.storeCell_lt hc))
  · exact h
  · exact h
  · exact { h with }
  · exact { h with }
  · rename_i hk
    exact { h with speedDmg := fun hn => by simp [State.place_cgb (s := s) (a := a) (by simp [Place.cgbOnly, hk])] at hn }
  · exact { h with }
  · refine { h with dmaWindow := fun d hd => ?_ }
    have : d = { page := v, ticksLeft := 648 / s.speed.multiplier } := by
      simpa [State.startDma, State.emit] using hd.symm
    rw [this]
    dsimp only
    cases s.speed <;> simp [Speed.multiplier]
  · rename_i hk
    exact { h with banksDmg := fun hn => by simp [State.place_cgb (s := s) (a := a) (by simp [Place.cgbOnly, hk])] at hn }
  · rename_i hk
    exact { h with banksDmg := fun hn => by simp [State.place_cgb (s := s) (a := a) (by simp [Place.cgbOnly, hk])] at hn }
  · exact { h with }
  · exact h

theorem State.DataInv.oamFree {s : State} (h : s.DataInv) {k : Nat} (hk : k ≤ 160) : (s.oamFree k).DataInv := by
  induction k with
  | zero => exact h
  | succ k ih =>
    have i := ih (by omega)
    exact (i.withMem (Memory.write_wf (0xFE00 + k) _ i.memCanonical)
      (Memory.write_inSpace i.memInSpace (by omega))).congr rfl rfl i.oneCounter rfl rfl rfl rfl rfl rfl rfl

theorem State.DataInv.oamCheck {s : State} (h : s.DataInv) (ty : OamType) (v : Word) : (s.oamCheck ty v).DataInv := by
  unfold State.oamCheck
  split
  · split
    · exact { h with }
    · exact State.DataInv.oamFree (s := s.emit (.oamCorrupt ty)) { h with } (Nat.le_refl 160)
  · exact h

theorem State.DataInv.pushByte {s : State} (h : s.DataInv) (ty : OamType) (v : Byte) : (s.pushByte ty v).DataInv :=
  ((h.oamCheck _ _).setSp _).busWrite _ _

theorem State.DataInv.push16 {s : State} (h : s.DataInv) (v : Word) : (s.push16 v).DataInv :=
  (h.pushByte _ _).pushByte _ _

theorem State.DataInv.popByte {s : State} (h : s.DataInv) (ty : OamType) : (s.popByte ty).2.DataInv :=
  ((h.oamCheck _ _).busRead _).setSp _

theorem State.DataInv.pop16 {s : State} (h : s.DataInv) : s.pop16.2.DataInv := (h.popByte _).popByte _

theorem State.DataInv.read8 {s : State} (h : s.DataInv) (x : Operand8) : (s.read8 x).2.DataInv := by
  cases x with
  | reg r => exact h
  | atHL => exact h.busRead _

theorem State.DataInv.write8 {s : State} (h : s.DataInv) (x : Operand8) (v : Byte) : (s.write8 x v).DataInv := by
  cases x with
  | reg r => exact h.setR8 r v
  | atHL => exact h.busWrite _ v

/-- An interrupt controller with at most one counter armed keeps at most one. -/
theorem IntCtl.instructionFinished_oneCounter {c : IntCtl} (h : c.pendingEnable = none ∨ c.pendingDisable = none) :
    c.instructionFinished.pendingEnable = none ∨ c.instructionFinished.pendingDisable = none := by
  obtain ⟨ime, ie, ifr, pe, pd⟩ := c
  rcases pe with _ | _ | _ <;> rcases pd with _ | _ | _ <;>
    simp_all [IntCtl.instructionFinished, IntCtl.stepEnable, IntCtl.stepDisable, IntCtl.enableNow, IntCtl.disableNow]

theorem State.DataInv.withIc {s : State} (h : s.DataInv) {c : IntCtl}
    (hc : c.pendingEnable = none ∨ c.pendingDisable = none) : ({ s with ic := c } : State).DataInv :=
  { h with oneCounter := hc }

theorem State.DataInv.instructionFinished {s : State} (h : s.DataInv) : s.instructionFinished.DataInv :=
  h.withIc (IntCtl.instructionFinished_oneCounter h.oneCounter)

theorem State.DataInv.fetch8 {s : State} (h : s.DataInv) : s.fetch8.2.DataInv := (h.busRead _).setPc _

theorem State.DataInv.fetchOpcode {s : State} (h : s.DataInv) : s.fetchOpcode.2.DataInv := by
  unfold State.fetchOpcode
  dsimp only
  split
  · exact { h.busRead s.regs.pc with }
  · exact (h.busRead _).setPc _

theorem State.DataInv.fetch {s : State} (h : s.DataInv) : s.fetch.st.DataInv := by
  unfold State.fetch
  dsimp only
  split
  · exact h.fetchOpcode
  · exact h.fetchOpcode.fetch8
  · exact h.fetchOpcode.fetch8.fetch8

theorem State.DataInv.dmaCopy {s : State} (h : s.DataInv) (b : Nat) {k : Nat} (hk : k ≤ 160) :
    (s.dmaCopy b k).DataInv := by
  induction k with
  | zero => exact h
  | succ k ih =>
    have i := ih (by omega)
    exact i.withMem (Memory.write_wf (0xFE00 + k) _ i.memCanonical) (Memory.write_inSpace i.memInSpace (by omega))

theorem State.DataInv.dmaAdvance {s : State} (h : s.DataInv) (n : Nat) : (s.dmaAdvance n).DataInv := by
  unfold State.dmaAdvance
  split
  · exact h
  · rename_i d hd
    split
    · exact State.DataInv.dmaCopy (s := { s with dma := none }) { h with dmaWindow := by simp } _ (Nat.le_refl 160)
    · rename_i hn
      refine { h with dmaWindow := fun d' hd' => ?_ }
      have := h.dmaWindow d hd
      have e : d' = { d with ticksLeft := d.ticksLeft - n } := by simpa using hd'.symm
      rw [e]
      dsimp only
      omega

end Sys2Proof.Machine
end

