-- ==== Sys2Proof/Laws/Ordinary.lean ====
section
/-! SUPPORT. Laws/Ordinary.lean: what every instruction but EI, DI, RETI, HALT, STOP, the CB byte and the undefined opcodes
leaves alone: said once, for all of them. -/

namespace Sys2Proof.Machine

/-- `u` differs from `s` in the registers, memory and what a bus write reaches only; the data part of the invariant is kept,
and so are IME and the delay counters. -/
structure Ordinary (s u : State) : Prop where
  cfg : u.cfg = s.cfg
  phase : u.phase = s.phase
  haltBug : u.haltBug = s.haltBug
  clockCycle : u.clockCycle = s.clockCycle
  latch : u.latch = s.latch
  irq : u.irq = s.irq
  speed : u.speed = s.speed
  bootRom : u.bootRom = s.bootRom
  ppu : u.ppu = s.ppu
  ime : u.ic.ime = s.ic.ime
  pendingEnable : u.ic.pendingEnable = s.ic.pendingEnable
  pendingDisable : u.ic.pendingDisable = s.ic.pendingDisable
  data : s.DataInv → u.DataInv

namespace Ordinary

theorem refl (s : State) : Ordinary s s := ⟨rfl, rfl, rfl, rfl, rfl, rfl, rfl, rfl, rfl, rfl, rfl, rfl, id⟩

theorem trans {s t u : State} (h : Ordinary s t) (k : Ordinary t u) : Ordinary s u :=
  ⟨k.cfg.trans h.cfg, k.phase.trans h.phase, k.haltBug.trans h.haltBug, k.clockCycle.trans h.clockCycle,
    k.latch.trans h.latch, k.irq.trans h.irq, k.speed.trans h.speed, k.bootRom.trans h.bootRom, k.ppu.trans h.ppu,
    k.ime.trans h.ime, k.pendingEnable.trans h.pendingEnable, k.pendingDisable.trans h.pendingDisable,
    fun d => k.data (h.data d)⟩

theorem setR8 (s : State) (r : Reg8) (v : Byte) : Ordinary s (s.setR8 r v) := by
  constructor <;> first | simp | exact fun d => d.setR8 r v

theorem setR16 (s : State) (r : Reg16) (v : Word) : Ordinary s (s.setR16 r v) := by
  constructor <;> first | (rw [State.setR16_eq]; done) | exact fun d => d.setR16 r v

theorem setPair (s : State) (r : StackPair) (v : Word) : Ordinary s (s.setPair r v) := by
  constructor <;> first | (rw [State.setPair_eq]; done) | exact fun d => d.setPair r v

theorem setF (s : State) (v : Byte) : Ordinary s (s.setF v) :=
  ⟨rfl, rfl, rfl, rfl, rfl, rfl, rfl, rfl, rfl, rfl, rfl, rfl, fun d => d.setF v⟩

theorem setSp (s : State) (v : Word) : Ordinary s (s.setSp v) := setR16 s .SP v

theorem setPc (s : State) (v : Word) : Ordinary s (s.setPc v) :=
  ⟨rfl, rfl, rfl, rfl, rfl, rfl, rfl, rfl, rfl, rfl, rfl, rfl, fun d => d.setPc v⟩

theorem setAF (s : State) (o : AluOut) : Ordinary s (s.setAF o) := (setR8 s .A o.val).trans (setF _ o.f)

theorem busRead (s : State) (a : Word) : Ordinary s (s.busRead a).2 := by
  constructor <;> first | simp | exact fun d => d.busRead a

theorem busWrite (s : State) (a : Word) (v : Byte) : Ordinary s (s.busWrite a v) := by
  constructor <;> first | simp | exact fun d => d.busWrite a v

theorem oamCheck (s : State) (ty : OamType) (v : Word) : Ordinary s (s.oamCheck ty v) := by
  constructor <;> first | simp | exact fun d => d.oamCheck ty v

theorem read8 (s : State) (x : Operand8) : Ordinary s (s.read8 x).2 := by
  cases x with
  | reg r => exact refl s
  | atHL => exact busRead s _

theorem write8 (s : State) (x : Operand8) (v : Byte) : Ordinary s (s.write8 x v) := by
  cases x with
  | reg r => exact setR8 s r v
  | atHL => exact busWrite s _ v

theorem pushByte (s : State) (ty : OamType) (v : Byte) : Ordinary s (s.pushByte ty v) :=
  ((oamCheck s _ _).trans (setSp _ _)).trans (busWrite _ _ _)

theorem push16 (s : State) (v : Word) : Ordinary s (s.push16 v) := (pushByte s _ _).trans (pushByte _ _ _)

theorem popByte (s : State) (ty : OamType) : Ordinary s (s.popByte ty).2 :=
  ((oamCheck s _ _).trans (busRead _ _)).trans (setSp _ _)

theorem pop16 (s : State) : Ordinary s s.pop16.2 := (popByte s _).trans (popByte _ _)

end Ordinary

/-- A meaning that ends through its micro-ops and is `Ordinary`. -/
def EndsOrdinary (s : State) (r : Result) : Prop := ∃ u, r = done u ∧ Ordinary s u

namespace EndsOrdinary

theorem of {s u : State} (h : Ordinary s u) : EndsOrdinary s (done u) := ⟨u, rfl, h⟩

theorem moveReg (d r : Reg8) (s : State) : EndsOrdinary s (moveReg d r s) := of (.setR8 _ _ _)
theorem loadImm8 (d : Reg8) (n : Byte) (s : State) : EndsOrdinary s (loadImm8 d n s) := of (.setR8 _ _ _)
theorem loadFromHL (d : Reg8) (s : State) : EndsOrdinary s (loadFromHL d s) :=
  of ((Ordinary.busRead _ _).trans (.setR8 _ _ _))
theorem storeToHL (v : Byte) (s : State) : EndsOrdinary s (storeToHL v s) := of (.busWrite _ _ _)
theorem loadA (m : MemForm) (s : State) : EndsOrdinary s (loadA m s) :=
  of ((Ordinary.busRead _ _).trans (.setR8 _ _ _))
theorem storeA (m : MemForm) (s : State) : EndsOrdinary s (storeA m s) := of (.busWrite _ _ _)
theorem loadAPost (d : Word) (s : State) : EndsOrdinary s (loadAPost d s) :=
  of ((((Ordinary.oamCheck _ _ _).trans (.busRead _ _)).trans (.setR8 _ _ _)).trans (.setR16 _ _ _))
theorem storeAPost (d : Word) (s : State) : EndsOrdinary s (storeAPost d s) :=
  of (((Ordinary.oamCheck _ _ _).trans (.busWrite _ _ _)).trans (.setR16 _ _ _))
theorem loadImm16 (r : Reg16) (nn : Word) (s : State) : EndsOrdinary s (loadImm16 r nn s) := of (.setR16 _ _ _)
theorem pushPair (r : StackPair) (s : State) : EndsOrdinary s (pushPair r s) := of (.push16 _ _)
theorem popPair (r : StackPair) (s : State) : EndsOrdinary s (popPair r s) :=
  of ((Ordinary.pop16 _).trans (.setPair _ _ _))
theorem aluOn (op : AluOp) (x : Operand8) (s : State) : EndsOrdinary s (aluOn op x s) :=
  of ((Ordinary.read8 _ _).trans (.setAF _ _))
theorem aluOnImm (op : AluOp) (n : Byte) (s : State) : EndsOrdinary s (aluOnImm op n s) := of (.setAF _ _)
theorem increment8 (x : Operand8) (s : State) : EndsOrdinary s (increment8 x s) :=
  of (((Ordinary.read8 _ _).trans (.setF _ _)).trans (.write8 _ _ _))
theorem decrement8 (x : Operand8) (s : State) : EndsOrdinary s (decrement8 x s) :=
  of (((Ordinary.read8 _ _).trans (.setF _ _)).trans (.write8 _ _ _))
theorem addToHL (r : Reg16) (s : State) : EndsOrdinary s (addToHL r s) :=
  of ((Ordinary.setF _ _).trans (.setR16 _ _ _))
theorem increment16 (r : Reg16) (s : State) : EndsOrdinary s (increment16 r s) :=
  of ((Ordinary.oamCheck _ _ _).trans (.setR16 _ _ _))
theorem decrement16 (r : Reg16) (s : State) : EndsOrdinary s (decrement16 r s) :=
  of ((Ordinary.oamCheck _ _ _).trans (.setR16 _ _ _))
theorem rotateA (op : RotOp) (s : State) : EndsOrdinary s (rotateA op s) := of (.setAF _ _)
theorem rotate (op : RotOp) (x : Operand8) (s : State) : EndsOrdinary s (rotate op x s) :=
  of (((Ordinary.read8 _ _).trans (.setF _ _)).trans (.write8 _ _ _))
theorem testBit (b : Fin 8) (x : Operand8) (s : State) : EndsOrdinary s (testBit b x s) :=
  of ((Ordinary.read8 _ _).trans (.setF _ _))
theorem clearBit (b : Fin 8) (x : Operand8) (s : State) : EndsOrdinary s (clearBit b x s) :=
  of ((Ordinary.read8 _ _).trans (.write8 _ _ _))
theorem raiseBit (b : Fin 8) (x : Operand8) (s : State) : EndsOrdinary s (raiseBit b x s) :=
  of ((Ordinary.read8 _ _).trans (.write8 _ _ _))
theorem jumpTo (a : Word) (s : State) : EndsOrdinary s (jumpTo a s) := of (.setPc _ _)
theorem jumpBy (e : Byte) (s : State) : EndsOrdinary s (jumpBy e s) := of (.setPc _ _)
theorem callTo (a : Word) (s : State) : EndsOrdinary s (callTo a s) :=
  of ((Ordinary.push16 _ _).trans (.setPc _ _))
theorem returnTo (s : State) : EndsOrdinary s (returnTo s) := of ((Ordinary.pop16 _).trans (.setPc _ _))
theorem restart (t : Fin 8) (s : State) : EndsOrdinary s (restart t s) := callTo _ s

theorem cond {s : State} {b : Bool} {r : Result} (h : EndsOrdinary s r) :
    EndsOrdinary s (if b then r else done s) := by
  cases b
  · exact of (.refl s)
  · exact h

theorem jumpIf (cc : Cond) (nn : Word) (s : State) : EndsOrdinary s (jumpIf cc nn s) := cond (jumpTo _ _)
theorem jumpByIf (cc : Cond) (e : Byte) (s : State) : EndsOrdinary s (jumpByIf cc e s) := cond (jumpBy _ _)
theorem callIf (cc : Cond) (nn : Word) (s : State) : EndsOrdinary s (callIf cc nn s) := cond (callTo _ _)
theorem returnIf (cc : Cond) (s : State) : EndsOrdinary s (returnIf cc s) := cond (returnTo _)

end EndsOrdinary

/-- The instructions that are not `EndsOrdinary`. -/
def Instr.special : Instr → Bool
  | .EI | .DI | .RETI | .HALT | .PREFIX_CB | .STOP _ | .UNDEFINED _ => true
  | _ => false

/-- Every other instruction ends through its micro-ops and is `Ordinary`. -/
theorem exec_ordinary (i : Instr) (s : State) (h : Instr.special i = false) : EndsOrdinary s (exec i s) :=
  match i with
  | .NOP => .of (.refl s)
  | .LD_BC_d16 _ => .loadImm16 _ _ _
  | .LD__BC__A => .storeA _ _
  | .INC_BC => .increment16 _ _
  | .INC_B => .increment8 _ _
  | .DEC_B => .decrement8 _ _
  | .LD_B_d8 _ => .loadImm8 _ _ _
  | .RLCA => .rotateA _ _
  | .LD__a16__SP _ => .of ((Ordinary.busWrite _ _ _).trans (.busWrite _ _ _))
  | .ADD_HL_BC => .addToHL _ _
  | .LD_A__BC => .loadA _ _
  | .DEC_BC => .decrement16 _ _
  | .INC_C => .increment8 _ _
  | .DEC_C => .decrement8 _ _
  | .LD_C_d8 _ => .loadImm8 _ _ _
  | .RRCA => .rotateA _ _
  | .STOP _ => absurd h (by simp [Instr.special])
  | .LD_DE_d16 _ => .loadImm16 _ _ _
  | .LD__DE__A => .storeA _ _
  | .INC_DE => .increment16 _ _
  | .INC_D => .increment8 _ _
  | .DEC_D => .decrement8 _ _
  | .LD_D_d8 _ => .loadImm8 _ _ _
  | .RLA => .rotateA _ _
  | .JR_r8 _ => .jumpBy _ _
  | .ADD_HL_DE => .addToHL _ _
  | .LD_A__DE => .loadA _ _
  | .DEC_DE => .decrement16 _ _
  | .INC_E => .increment8 _ _
  | .DEC_E => .decrement8 _ _
  | .LD_E_d8 _ => .loadImm8 _ _ _
  | .RRA => .rotateA _ _
  | .JR_NZ_r8 _ => .jumpByIf _ _ _
  | .LD_HL_d16 _ => .loadImm16 _ _ _
  | .LD__HLI__A => .storeAPost _ _
  | .INC_HL => .increment16 _ _
  | .INC_H => .increment8 _ _
  | .DEC_H => .decrement8 _ _
  | .LD_H_d8 _ => .loadImm8 _ _ _
  | .DAA => .of (.setAF _ _)
  | .JR_Z_r8 _ => .jumpByIf _ _ _
  | .ADD_HL_HL => .addToHL _ _
  | .LD_A__HLI => .loadAPost _ _
  | .DEC_HL => .decrement16 _ _
  | .INC_L => .increment8 _ _
  | .DEC_L => .decrement8 _ _
  | .LD_L_d8 _ => .loadImm8 _ _ _
  | .CPL => .of (.setAF _ _)
  | .JR_NC_r8 _ => .jumpByIf _ _ _
  | .LD_SP_d16 _ => .loadImm16 _ _ _
  | .LD__HLD__A => .storeAPost _ _
  | .INC_SP => .increment16 _ _
  | .INC__HL => .increment8 _ _
  | .DEC__HL => .decrement8 _ _
  | .LD__HL__d8 _ => .storeToHL _ _
  | .SCF => .of (.setF _ _)
  | .JR_C_r8 _ => .jumpByIf _ _ _
  | .ADD_HL_SP => .addToHL _ _
  | .LD_A__HLD => .loadAPost _ _
  | .DEC_SP => .decrement16 _ _
  | .INC_A => .increment8 _ _
  | .DEC_A => .decrement8 _ _
  | .LD_A_d8 _ => .loadImm8 _ _ _
  | .CCF => .of (.setF _ _)
  | .LD_B_B => .moveReg _ _ _
  | .LD_B_C => .moveReg _ _ _
  | .LD_B_D => .moveReg _ _ _
  | .LD_B_E => .moveReg _ _ _
  | .LD_B_H => .moveReg _ _ _
  | .LD_B_L => .moveReg _ _ _
  | .LD_B__HL => .loadFromHL _ _
  | .LD_B_A => .moveReg _ _ _
  | .LD_C_B => .moveReg _ _ _
  | .LD_C_C => .moveReg _ _ _
  | .LD_C_D => .moveReg _ _ _
  | .LD_C_E => .moveReg _ _ _
  | .LD_C_H => .moveReg _ _ _
  | .LD_C_L => .moveReg _ _ _
  | .LD_C__HL => .loadFromHL _ _
  | .LD_C_A => .moveReg _ _ _
  | .LD_D_B => .moveReg _ _ _
  | .LD_D_C => .moveReg _ _ _
  | .LD_D_D => .moveReg _ _ _
  | .LD_D_E => .moveReg _ _ _
  | .LD_D_H => .moveReg _ _ _
  | .LD_D_L => .moveReg _ _ _
  | .LD_D__HL => .loadFromHL _ _
  | .LD_D_A => .moveReg _ _ _
  | .LD_E_B => .moveReg _ _ _
  | .LD_E_C => .moveReg _ _ _
  | .LD_E_D => .moveReg _ _ _
  | .LD_E_E => .moveReg _ _ _
  | .LD_E_H => .moveReg _ _ _
  | .LD_E_L => .moveReg _ _ _
  | .LD_E__HL => .loadFromHL _ _
  | .LD_E_A => .moveReg _ _ _
  | .LD_H_B => .moveReg _ _ _
  | .LD_H_C => .moveReg _ _ _
  | .LD_H_D => .moveReg _ _ _
  | .LD_H_E => .moveReg _ _ _
  | .LD_H_H => .moveReg _ _ _
  | .LD_H_L => .moveReg _ _ _
  | .LD_H__HL => .loadFromHL _ _
  | .LD_H_A => .moveReg _ _ _
  | .LD_L_B => .moveReg _ _ _
  | .LD_L_C => .moveReg _ _ _
  | .LD_L_D => .moveReg _ _ _
  | .LD_L_E => .moveReg _ _ _
  | .LD_L_H => .moveReg _ _ _
  | .LD_L_L => .moveReg _ _ _
  | .LD_L__HL => .loadFromHL _ _
  | .LD_L_A => .moveReg _ _ _
  | .LD__HL__B => .storeToHL _ _
  | .LD__HL__C => .storeToHL _ _
  | .LD__HL__D => .storeToHL _ _
  | .LD__HL__E => .storeToHL _ _
  | .LD__HL__H => .storeToHL _ _
  | .LD__HL__L => .storeToHL _ _
  | .HALT => absurd h (by simp [Instr.special])
  | .LD__HL__A => .storeToHL _ _
  | .LD_A_B => .moveReg _ _ _
  | .LD_A_C => .moveReg _ _ _
  | .LD_A_D => .moveReg _ _ _
  | .LD_A_E => .moveReg _ _ _
  | .LD_A_H => .moveReg _ _ _
  | .LD_A_L => .moveReg _ _ _
  | .LD_A__HL => .loadFromHL _ _
  | .LD_A_A => .moveReg _ _ _
  | .ADD_A_B => .aluOn _ _ _
  | .ADD_A_C => .aluOn _ _ _
  | .ADD_A_D => .aluOn _ _ _
  | .ADD_A_E => .aluOn _ _ _
  | .ADD_A_H => .aluOn _ _ _
  | .ADD_A_L => .aluOn _ _ _
  | .ADD_A__HL => .aluOn _ _ _
  | .ADD_A_A => .aluOn _ _ _
  | .ADC_A_B => .aluOn _ _ _
  | .ADC_A_C => .aluOn _ _ _
  | .ADC_A_D => .aluOn _ _ _
  | .ADC_A_E => .aluOn _ _ _
  | .ADC_A_H => .aluOn _ _ _
  | .ADC_A_L => .aluOn _ _ _
  | .ADC_A__HL => .aluOn _ _ _
  | .ADC_A_A => .aluOn _ _ _
  | .SUB_B => .aluOn _ _ _
  | .SUB_C => .aluOn _ _ _
  | .SUB_D => .aluOn _ _ _
  | .SUB_E => .aluOn _ _ _
  | .SUB_H => .aluOn _ _ _
  | .SUB_L => .aluOn _ _ _
  | .SUB__HL => .aluOn _ _ _
  | .SUB_A => .aluOn _ _ _
  | .SBC_A_B => .aluOn _ _ _
  | .SBC_A_C => .aluOn _ _ _
  | .SBC_A_D => .aluOn _ _ _
  | .SBC_A_E => .aluOn _ _ _
  | .SBC_A_H => .aluOn _ _ _
  | .SBC_A_L => .aluOn _ _ _
  | .SBC_A__HL => .aluOn _ _ _
  | .SBC_A_A => .aluOn _ _ _
  | .AND_B => .aluOn _ _ _
  | .AND_C => .aluOn _ _ _
  | .AND_D => .aluOn _ _ _
  | .AND_E => .aluOn _ _ _
  | .AND_H => .aluOn _ _ _
  | .AND_L => .aluOn _ _ _
  | .AND__HL => .aluOn _ _ _
  | .AND_A => .aluOn _ _ _
  | .XOR_B => .aluOn _ _ _
  | .XOR_C => .aluOn _ _ _
  | .XOR_D => .aluOn _ _ _
  | .XOR_E => .aluOn _ _ _
  | .XOR_H => .aluOn _ _ _
  | .XOR_L => .aluOn _ _ _
  | .XOR__HL => .aluOn _ _ _
  | .XOR_A => .aluOn _ _ _
  | .OR_B => .aluOn _ _ _
  | .OR_C => .aluOn _ _ _
  | .OR_D => .aluOn _ _ _
  | .OR_E => .aluOn _ _ _
  | .OR_H => .aluOn _ _ _
  | .OR_L => .aluOn _ _ _
  | .OR__HL => .aluOn _ _ _
  | .OR_A => .aluOn _ _ _
  | .CP_B => .aluOn _ _ _
  | .CP_C => .aluOn _ _ _
  | .CP_D => .aluOn _ _ _
  | .CP_E => .aluOn _ _ _
  | .CP_H => .aluOn _ _ _
  | .CP_L => .aluOn _ _ _
  | .CP__HL => .aluOn _ _ _
  | .CP_A => .aluOn _ _ _
  | .RET_NZ => .returnIf _ _
  | .POP_BC => .popPair _ _
  | .JP_NZ_a16 _ => .jumpIf _ _ _
  | .JP_a16 _ => .jumpTo _ _
  | .CALL_NZ_a16 _ => .callIf _ _ _
  | .PUSH_BC => .pushPair _ _
  | .ADD_A_d8 _ => .aluOnImm _ _ _
  | .RST_0x00 => .restart _ _
  | .RET_Z => .returnIf _ _
  | .RET => .returnTo _
  | .JP_Z_a16 _ => .jumpIf _ _ _
  | .CALL_Z_a16 _ => .callIf _ _ _
  | .CALL_a16 _ => .callTo _ _
  | .ADC_A_d8 _ => .aluOnImm _ _ _
  | .RST_0x08 => .restart _ _
  | .RET_NC => .returnIf _ _
  | .POP_DE => .popPair _ _
  | .JP_NC_a16 _ => .jumpIf _ _ _
  | .UNDEFINED _ => absurd h (by simp [Instr.special])
  | .CALL_NC_a16 _ => .callIf _ _ _
  | .PUSH_DE => .pushPair _ _
  | .SUB_d8 _ => .aluOnImm _ _ _
  | .RST_0x10 => .restart _ _
  | .RET_C => .returnIf _ _
  | .RETI => absurd h (by simp [Instr.special])
  | .JP_C_a16 _ => .jumpIf _ _ _
  | .CALL_C_a16 _ => .callIf _ _ _
  | .SBC_A_d8 _ => .aluOnImm _ _ _
  | .RST_0x18 => .restart _ _
  | .LDH__a8__A _ => .storeA _ _
  | .POP_HL => .popPair _ _
  | .LD__C__A => .storeA _ _
  | .PUSH_HL => .pushPair _ _
  | .AND_d8 _ => .aluOnImm _ _ _
  | .RST_0x20 => .restart _ _
  | .ADD_SP_r8 _ => .of ((Ordinary.setF _ _).trans (.setSp _ _))
  | .JP__HL => .jumpTo _ _
  | .LD__a16__A _ => .storeA _ _
  | .XOR_d8 _ => .aluOnImm _ _ _
  | .RST_0x28 => .restart _ _
  | .LDH_A__a8 _ => .loadA _ _
  | .POP_AF => .popPair _ _
  | .LD_A__C => .loadA _ _
  | .DI => absurd h (by simp [Instr.special])
  | .PUSH_AF => .pushPair _ _
  | .OR_d8 _ => .aluOnImm _ _ _
  | .RST_0x30 => .restart _ _
  | .LD_HL_SP_r8 _ => .of ((Ordinary.setF _ _).trans (.setR16 _ _ _))
  | .LD_SP_HL => .of (.setSp _ _)
  | .LD_A__a16 _ => .loadA _ _
  | .EI => absurd h (by simp [Instr.special])
  | .CP_d8 _ => .aluOnImm _ _ _
  | .RST_0x38 => .restart _ _
  | .PREFIX_CB => absurd h (by simp [Instr.special])
  | .RLC_B => .rotate _ _ _
  | .RLC_C => .rotate _ _ _
  | .RLC_D => .rotate _ _ _
  | .RLC_E => .rotate _ _ _
  | .RLC_H => .rotate _ _ _
  | .RLC_L => .rotate _ _ _
  | .RLC__HL => .rotate _ _ _
  | .RLC_A => .rotate _ _ _
  | .RRC_B => .rotate _ _ _
  | .RRC_C => .rotate _ _ _
  | .RRC_D => .rotate _ _ _
  | .RRC_E => .rotate _ _ _
  | .RRC_H => .rotate _ _ _
  | .RRC_L => .rotate _ _ _
  | .RRC__HL => .rotate _ _ _
  | .RRC_A => .rotate _ _ _
  | .RL_B => .rotate _ _ _
  | .RL_C => .rotate _ _ _
  | .RL_D => .rotate _ _ _
  | .RL_E => .rotate _ _ _
  | .RL_H => .rotate _ _ _
  | .RL_L => .rotate _ _ _
  | .RL__HL => .rotate _ _ _
  | .RL_A => .rotate _ _ _
  | .RR_B => .rotate _ _ _
  | .RR_C => .rotate _ _ _
  | .RR_D => .rotate _ _ _
  | .RR_E => .rotate _ _ _
  | .RR_H => .rotate _ _ _
  | .RR_L => .rotate _ _ _
  | .RR__HL => .rotate _ _ _
  | .RR_A => .rotate _ _ _
  | .SLA_B => .rotate _ _ _
  | .SLA_C => .rotate _ _ _
  | .SLA_D => .rotate _ _ _
  | .SLA_E => .rotate _ _ _
  | .SLA_H => .rotate _ _ _
  | .SLA_L => .rotate _ _ _
  | .SLA__HL => .rotate _ _ _
  | .SLA_A => .rotate _ _ _
  | .SRA_B => .rotate _ _ _
  | .SRA_C => .rotate _ _ _
  | .SRA_D => .rotate _ _ _
  | .SRA_E => .rotate _ _ _
  | .SRA_H => .rotate _ _ _
  | .SRA_L => .rotate _ _ _
  | .SRA__HL => .rotate _ _ _
  | .SRA_A => .rotate _ _ _
  | .SWAP_B => .rotate _ _ _
  | .SWAP_C => .rotate _ _ _
  | .SWAP_D => .rotate _ _ _
  | .SWAP_E => .rotate _ _ _
  | .SWAP_H => .rotate _ _ _
  | .SWAP_L => .rotate _ _ _
  | .SWAP__HL => .rotate _ _ _
  | .SWAP_A => .rotate _ _ _
  | .SRL_B => .rotate _ _ _
  | .SRL_C => .rotate _ _ _
  | .SRL_D => .rotate _ _ _
  | .SRL_E => .rotate _ _ _
  | .SRL_H => .rotate _ _ _
  | .SRL_L => .rotate _ _ _
  | .SRL__HL => .rotate _ _ _
  | .SRL_A => .rotate _ _ _
  | .BIT_0_B => .testBit _ _ _
  | .BIT_0_C => .testBit _ _ _
  | .BIT_0_D => .testBit _ _ _
  | .BIT_0_E => .testBit _ _ _
  | .BIT_0_H => .testBit _ _ _
  | .BIT_0_L => .testBit _ _ _
  | .BIT_0__HL => .testBit _ _ _
  | .BIT_0_A => .testBit _ _ _
  | .BIT_1_B => .testBit _ _ _
  | .BIT_1_C => .testBit _ _ _
  | .BIT_1_D => .testBit _ _ _
  | .BIT_1_E => .testBit _ _ _
  | .BIT_1_H => .testBit _ _ _
  | .BIT_1_L => .testBit _ _ _
  | .BIT_1__HL => .testBit _ _ _
  | .BIT_1_A => .testBit _ _ _
  | .BIT_2_B => .testBit _ _ _
  | .BIT_2_C => .testBit _ _ _
  | .BIT_2_D => .testBit _ _ _
  | .BIT_2_E => .testBit _ _ _
  | .BIT_2_H => .testBit _ _ _
  | .BIT_2_L => .testBit _ _ _
  | .BIT_2__HL => .testBit _ _ _
  | .BIT_2_A => .testBit _ _ _
  | .BIT_3_B => .testBit _ _ _
  | .BIT_3_C => .testBit _ _ _
  | .BIT_3_D => .testBit _ _ _
  | .BIT_3_E => .testBit _ _ _
  | .BIT_3_H => .testBit _ _ _
  | .BIT_3_L => .testBit _ _ _
  | .BIT_3__HL => .testBit _ _ _
  | .BIT_3_A => .testBit _ _ _
  | .BIT_4_B => .testBit _ _ _
  | .BIT_4_C => .testBit _ _ _
  | .BIT_4_D => .testBit _ _ _
  | .BIT_4_E => .testBit _ _ _
  | .BIT_4_H => .testBit _ _ _
  | .BIT_4_L => .testBit _ _ _
  | .BIT_4__HL => .testBit _ _ _
  | .BIT_4_A => .testBit _ _ _
  | .BIT_5_B => .testBit _ _ _
  | .BIT_5_C => .testBit _ _ _
  | .BIT_5_D => .testBit _ _ _
  | .BIT_5_E => .testBit _ _ _
  | .BIT_5_H => .testBit _ _ _
  | .BIT_5_L => .testBit _ _ _
  | .BIT_5__HL => .testBit _ _ _
  | .BIT_5_A => .testBit _ _ _
  | .BIT_6_B => .testBit _ _ _
  | .BIT_6_C => .testBit _ _ _
  | .BIT_6_D => .testBit _ _ _
  | .BIT_6_E => .testBit _ _ _
  | .BIT_6_H => .testBit _ _ _
  | .BIT_6_L => .testBit _ _ _
  | .BIT_6__HL => .testBit _ _ _
  | .BIT_6_A => .testBit _ _ _
  | .BIT_7_B => .testBit _ _ _
  | .BIT_7_C => .testBit _ _ _
  | .BIT_7_D => .testBit _ _ _
  | .BIT_7_E => .testBit _ _ _
  | .BIT_7_H => .testBit _ _ _
  | .BIT_7_L => .testBit _ _ _
  | .BIT_7__HL => .testBit _ _ _
  | .BIT_7_A => .testBit _ _ _
  | .RES_0_B => .clearBit _ _ _
  | .RES_0_C => .clearBit _ _ _
  | .RES_0_D => .clearBit _ _ _
  | .RES_0_E => .clearBit _ _ _
  | .RES_0_H => .clearBit _ _ _
  | .RES_0_L => .clearBit _ _ _
  | .RES_0__HL => .clearBit _ _ _
  | .RES_0_A => .clearBit _ _ _
  | .RES_1_B => .clearBit _ _ _
  | .RES_1_C => .clearBit _ _ _
  | .RES_1_D => .clearBit _ _ _
  | .RES_1_E => .clearBit _ _ _
  | .RES_1_H => .clearBit _ _ _
  | .RES_1_L => .clearBit _ _ _
  | .RES_1__HL => .clearBit _ _ _
  | .RES_1_A => .clearBit _ _ _
  | .RES_2_B => .clearBit _ _ _
  | .RES_2_C => .clearBit _ _ _
  | .RES_2_D => .clearBit _ _ _
  | .RES_2_E => .clearBit _ _ _
  | .RES_2_H => .clearBit _ _ _
  | .RES_2_L => .clearBit _ _ _
  | .RES_2__HL => .clearBit _ _ _
  | .RES_2_A => .clearBit _ _ _
  | .RES_3_B => .clearBit _ _ _
  | .RES_3_C => .clearBit _ _ _
  | .RES_3_D => .clearBit _ _ _
  | .RES_3_E => .clearBit _ _ _
  | .RES_3_H => .clearBit _ _ _
  | .RES_3_L => .clearBit _ _ _
  | .RES_3__HL => .clearBit _ _ _
  | .RES_3_A => .clearBit _ _ _
  | .RES_4_B => .clearBit _ _ _
  | .RES_4_C => .clearBit _ _ _
  | .RES_4_D => .clearBit _ _ _
  | .RES_4_E => .clearBit _ _ _
  | .RES_4_H => .clearBit _ _ _
  | .RES_4_L => .clearBit _ _ _
  | .RES_4__HL => .clearBit _ _ _
  | .RES_4_A => .clearBit _ _ _
  | .RES_5_B => .clearBit _ _ _
  | .RES_5_C => .clearBit _ _ _
  | .RES_5_D => .clearBit _ _ _
  | .RES_5_E => .clearBit _ _ _
  | .RES_5_H => .clearBit _ _ _
  | .RES_5_L => .clearBit _ _ _
  | .RES_5__HL => .clearBit _ _ _
  | .RES_5_A => .clearBit _ _ _
  | .RES_6_B => .clearBit _ _ _
  | .RES_6_C => .clearBit _ _ _
  | .RES_6_D => .clearBit _ _ _
  | .RES_6_E => .clearBit _ _ _
  | .RES_6_H => .clearBit _ _ _
  | .RES_6_L => .clearBit _ _ _
  | .RES_6__HL => .clearBit _ _ _
  | .RES_6_A => .clearBit _ _ _
  | .RES_7_B => .clearBit _ _ _
  | .RES_7_C => .clearBit _ _ _
  | .RES_7_D => .clearBit _ _ _
  | .RES_7_E => .clearBit _ _ _
  | .RES_7_H => .clearBit _ _ _
  | .RES_7_L => .clearBit _ _ _
  | .RES_7__HL => .clearBit _ _ _
  | .RES_7_A => .clearBit _ _ _
  | .SET_0_B => .raiseBit _ _ _
  | .SET_0_C => .raiseBit _ _ _
  | .SET_0_D => .raiseBit _ _ _
  | .SET_0_E => .raiseBit _ _ _
  | .SET_0_H => .raiseBit _ _ _
  | .SET_0_L => .raiseBit _ _ _
  | .SET_0__HL => .raiseBit _ _ _
  | .SET_0_A => .raiseBit _ _ _
  | .SET_1_B => .raiseBit _ _ _
  | .SET_1_C => .raiseBit _ _ _
  | .SET_1_D => .raiseBit _ _ _
  | .SET_1_E => .raiseBit _ _ _
  | .SET_1_H => .raiseBit _ _ _
  | .SET_1_L => .raiseBit _ _ _
  | .SET_1__HL => .raiseBit _ _ _
  | .SET_1_A => .raiseBit _ _ _
  | .SET_2_B => .raiseBit _ _ _
  | .SET_2_C => .raiseBit _ _ _
  | .SET_2_D => .raiseBit _ _ _
  | .SET_2_E => .raiseBit _ _ _
  | .SET_2_H => .raiseBit _ _ _
  | .SET_2_L => .raiseBit _ _ _
  | .SET_2__HL => .raiseBit _ _ _
  | .SET_2_A => .raiseBit _ _ _
  | .SET_3_B => .raiseBit _ _ _
  | .SET_3_C => .raiseBit _ _ _
  | .SET_3_D => .raiseBit _ _ _
  | .SET_3_E => .raiseBit _ _ _
  | .SET_3_H => .raiseBit _ _ _
  | .SET_3_L => .raiseBit _ _ _
  | .SET_3__HL => .raiseBit _ _ _
  | .SET_3_A => .raiseBit _ _ _
  | .SET_4_B => .raiseBit _ _ _
  | .SET_4_C => .raiseBit _ _ _
  | .SET_4_D => .raiseBit _ _ _
  | .SET_4_E => .raiseBit _ _ _
  | .SET_4_H => .raiseBit _ _ _
  | .SET_4_L => .raiseBit _ _ _
  | .SET_4__HL => .raiseBit _ _ _
  | .SET_4_A => .raiseBit _ _ _
  | .SET_5_B => .raiseBit _ _ _
  | .SET_5_C => .raiseBit _ _ _
  | .SET_5_D => .raiseBit _ _ _
  | .SET_5_E => .raiseBit _ _ _
  | .SET_5_H => .raiseBit _ _ _
  | .SET_5_L => .raiseBit _ _ _
  | .SET_5__HL => .raiseBit _ _ _
  | .SET_5_A => .raiseBit _ _ _
  | .SET_6_B => .raiseBit _ _ _
  | .SET_6_C => .raiseBit _ _ _
  | .SET_6_D => .raiseBit _ _ _
  | .SET_6_E => .raiseBit _ _ _
  | .SET_6_H => .raiseBit _ _ _
  | .SET_6_L => .raiseBit _ _ _
  | .SET_6__HL => .raiseBit _ _ _
  | .SET_6_A => .raiseBit _ _ _
  | .SET_7_B => .raiseBit _ _ _
  | .SET_7_C => .raiseBit _ _ _
  | .SET_7_D => .raiseBit _ _ _
  | .SET_7_E => .raiseBit _ _ _
  | .SET_7_H => .raiseBit _ _ _
  | .SET_7_L => .raiseBit _ _ _
  | .SET_7__HL => .raiseBit _ _ _
  | .SET_7_A => .raiseBit _ _ _

end Sys2Proof.Machine
end

