-- ==== Sys2Proof/Laws/PerInstr.lean ====
section
/-! SUPPORT. Laws/PerInstr.lean: facts of every instruction as syntax, one lemma per constructor. -/

set_option linter.style.nameCheck false

namespace Sys2Proof.Laws.EncodingLength

/-- R100, R103: an encoding has 1 to 3 bytes; its first byte tells how many follow (the CB byte alone, R335, is shown
with nothing after it). -/
def Statement (i : Instr) : Prop :=
  i.wf = true →
    ∃ b0 rest, encode i = b0 :: rest ∧ (i = .PREFIX_CB ∨ rest.length = bytesAfter b0) ∧ rest.length ≤ 2

theorem NOP : Statement .NOP := fun _ => ⟨_, _, rfl, Or.inr rfl, by simp⟩
theorem LD_BC_d16 (nn : Word) : Statement (.LD_BC_d16 nn) := fun _ => ⟨_, _, rfl, Or.inr rfl, by simp⟩
theorem LD__BC__A : Statement .LD__BC__A := fun _ => ⟨_, _, rfl, Or.inr rfl, by simp⟩
theorem INC_BC : Statement .INC_BC := fun _ => ⟨_, _, rfl, Or.inr rfl, by simp⟩
theorem INC_B : Statement .INC_B := fun _ => ⟨_, _, rfl, Or.inr rfl, by simp⟩
theorem DEC_B : Statement .DEC_B := fun _ => ⟨_, _, rfl, Or.inr rfl, by simp⟩
theorem LD_B_d8 (n : Byte) : Statement (.LD_B_d8 n) := fun _ => ⟨_, _, rfl, Or.inr rfl, by simp⟩
theorem RLCA : Statement .RLCA := fun _ => ⟨_, _, rfl, Or.inr rfl, by simp⟩
theorem LD__a16__SP (nn : Word) : Statement (.LD__a16__SP nn) := fun _ => ⟨_, _, rfl, Or.inr rfl, by simp⟩
theorem ADD_HL_BC : Statement .ADD_HL_BC := fun _ => ⟨_, _, rfl, Or.inr rfl, by simp⟩
theorem LD_A__BC : Statement .LD_A__BC := fun _ => ⟨_, _, rfl, Or.inr rfl, by simp⟩
theorem DEC_BC : Statement .DEC_BC := fun _ => ⟨_, _, rfl, Or.inr rfl, by simp⟩
theorem INC_C : Statement .INC_C := fun _ => ⟨_, _, rfl, Or.inr rfl, by simp⟩
theorem DEC_C : Statement .DEC_C := fun _ => ⟨_, _, rfl, Or.inr rfl, by simp⟩
theorem LD_C_d8 (n : Byte) : Statement (.LD_C_d8 n) := fun _ => ⟨_, _, rfl, Or.inr rfl, by simp⟩
theorem RRCA : Statement .RRCA := fun _ => ⟨_, _, rfl, Or.inr rfl, by simp⟩
theorem STOP (pad : Byte) : Statement (.STOP pad) := fun _ => ⟨_, _, rfl, Or.inr rfl, by simp⟩
theorem LD_DE_d16 (nn : Word) : Statement (.LD_DE_d16 nn) := fun _ => ⟨_, _, rfl, Or.inr rfl, by simp⟩
theorem LD__DE__A : Statement .LD__DE__A := fun _ => ⟨_, _, rfl, Or.inr rfl, by simp⟩
theorem INC_DE : Statement .INC_DE := fun _ => ⟨_, _, rfl, Or.inr rfl, by simp⟩
theorem INC_D : Statement .INC_D := fun _ => ⟨_, _, rfl, Or.inr rfl, by simp⟩
theorem DEC_D : Statement .DEC_D := fun _ => ⟨_, _, rfl, Or.inr rfl, by simp⟩
theorem LD_D_d8 (n : Byte) : Statement (.LD_D_d8 n) := fun _ => ⟨_, _, rfl, Or.inr rfl, by simp⟩
theorem RLA : Statement .RLA := fun _ => ⟨_, _, rfl, Or.inr rfl, by simp⟩
theorem JR_r8 (e : Byte) : Statement (.JR_r8 e) := fun _ => ⟨_, _, rfl, Or.inr rfl, by simp⟩
theorem ADD_HL_DE : Statement .ADD_HL_DE := fun _ => ⟨_, _, rfl, Or.inr rfl, by simp⟩
theorem LD_A__DE : Statement .LD_A__DE := fun _ => ⟨_, _, rfl, Or.inr rfl, by simp⟩
theorem DEC_DE : Statement .DEC_DE := fun _ => ⟨_, _, rfl, Or.inr rfl, by simp⟩
theorem INC_E : Statement .INC_E := fun _ => ⟨_, _, rfl, Or.inr rfl, by simp⟩
theorem DEC_E : Statement .DEC_E := fun _ => ⟨_, _, rfl, Or.inr rfl, by simp⟩
theorem LD_E_d8 (n : Byte) : Statement (.LD_E_d8 n) := fun _ => ⟨_, _, rfl, Or.inr rfl, by simp⟩
theorem RRA : Statement .RRA := fun _ => ⟨_, _, rfl, Or.inr rfl, by simp⟩
theorem JR_NZ_r8 (e : Byte) : Statement (.JR_NZ_r8 e) := fun _ => ⟨_, _, rfl, Or.inr rfl, by simp⟩
theorem LD_HL_d16 (nn : Word) : Statement (.LD_HL_d16 nn) := fun _ => ⟨_, _, rfl, Or.inr rfl, by simp⟩
theorem LD__HLI__A : Statement .LD__HLI__A := fun _ => ⟨_, _, rfl, Or.inr rfl, by simp⟩
theorem INC_HL : Statement .INC_HL := fun _ => ⟨_, _, rfl, Or.inr rfl, by simp⟩
theorem INC_H : Statement .INC_H := fun _ => ⟨_, _, rfl, Or.inr rfl, by simp⟩
theorem DEC_H : Statement .DEC_H := fun _ => ⟨_, _, rfl, Or.inr rfl, by simp⟩
theorem LD_H_d8 (n : Byte) : Statement (.LD_H_d8 n) := fun _ => ⟨_, _, rfl, Or.inr rfl, by simp⟩
theorem DAA : Statement .DAA := fun _ => ⟨_, _, rfl, Or.inr rfl, by simp⟩
theorem JR_Z_r8 (e : Byte) : Statement (.JR_Z_r8 e) := fun _ => ⟨_, _, rfl, Or.inr rfl, by simp⟩
theorem ADD_HL_HL : Statement .ADD_HL_HL := fun _ => ⟨_, _, rfl, Or.inr rfl, by simp⟩
theorem LD_A__HLI : Statement .LD_A__HLI := fun _ => ⟨_, _, rfl, Or.inr rfl, by simp⟩
theorem DEC_HL : Statement .DEC_HL := fun _ => ⟨_, _, rfl, Or.inr rfl, by simp⟩
theorem INC_L : Statement .INC_L := fun _ => ⟨_, _, rfl, Or.inr rfl, by simp⟩
theorem DEC_L : Statement .DEC_L := fun _ => ⟨_, _, rfl, Or.inr rfl, by simp⟩
theorem LD_L_d8 (n : Byte) : Statement (.LD_L_d8 n) := fun _ => ⟨_, _, rfl, Or.inr rfl, by simp⟩
theorem CPL : Statement .CPL := fun _ => ⟨_, _, rfl, Or.inr rfl, by simp⟩
theorem JR_NC_r8 (e : Byte) : Statement (.JR_NC_r8 e) := fun _ => ⟨_, _, rfl, Or.inr rfl, by simp⟩
theorem LD_SP_d16 (nn : Word) : Statement (.LD_SP_d16 nn) := fun _ => ⟨_, _, rfl, Or.inr rfl, by simp⟩
theorem LD__HLD__A : Statement .LD__HLD__A := fun _ => ⟨_, _, rfl, Or.inr rfl, by simp⟩
theorem INC_SP : Statement .INC_SP := fun _ => ⟨_, _, rfl, Or.inr rfl, by simp⟩
theorem INC__HL : Statement .INC__HL := fun _ => ⟨_, _, rfl, Or.inr rfl, by simp⟩
theorem DEC__HL : Statement .DEC__HL := fun _ => ⟨_, _, rfl, Or.inr rfl, by simp⟩
theorem LD__HL__d8 (n : Byte) : Statement (.LD__HL__d8 n) := fun _ => ⟨_, _, rfl, Or.inr rfl, by simp⟩
theorem SCF : Statement .SCF := fun _ => ⟨_, _, rfl, Or.inr rfl, by simp⟩
theorem JR_C_r8 (e : Byte) : Statement (.JR_C_r8 e) := fun _ => ⟨_, _, rfl, Or.inr rfl, by simp⟩
theorem ADD_HL_SP : Statement .ADD_HL_SP := fun _ => ⟨_, _, rfl, Or.inr rfl, by simp⟩
theorem LD_A__HLD : Statement .LD_A__HLD := fun _ => ⟨_, _, rfl, Or.inr rfl, by simp⟩
theorem DEC_SP : Statement .DEC_SP := fun _ => ⟨_, _, rfl, Or.inr rfl, by simp⟩
theorem INC_A : Statement .INC_A := fun _ => ⟨_, _, rfl, Or.inr rfl, by simp⟩
theorem DEC_A : Statement .DEC_A := fun _ => ⟨_, _, rfl, Or.inr rfl, by simp⟩
theorem LD_A_d8 (n : Byte) : Statement (.LD_A_d8 n) := fun _ => ⟨_, _, rfl, Or.inr rfl, by simp⟩
theorem CCF : Statement .CCF := fun _ => ⟨_, _, rfl, Or.inr rfl, by simp⟩
theorem LD_B_B : Statement .LD_B_B := fun _ => ⟨_, _, rfl, Or.inr rfl, by simp⟩
theorem LD_B_C : Statement .LD_B_C := fun _ => ⟨_, _, rfl, Or.inr rfl, by simp⟩
theorem LD_B_D : Statement .LD_B_D := fun _ => ⟨_, _, rfl, Or.inr rfl, by simp⟩
theorem LD_B_E : Statement .LD_B_E := fun _ => ⟨_, _, rfl, Or.inr rfl, by simp⟩
theorem LD_B_H : Statement .LD_B_H := fun _ => ⟨_, _, rfl, Or.inr rfl, by simp⟩
theorem LD_B_L : Statement .LD_B_L := fun _ => ⟨_, _, rfl, Or.inr rfl, by simp⟩
theorem LD_B__HL : Statement .LD_B__HL := fun _ => ⟨_, _, rfl, Or.inr rfl, by simp⟩
theorem LD_B_A : Statement .LD_B_A := fun _ => ⟨_, _, rfl, Or.inr rfl, by simp⟩
theorem LD_C_B : Statement .LD_C_B := fun _ => ⟨_, _, rfl, Or.inr rfl, by simp⟩
theorem LD_C_C : Statement .LD_C_C := fun _ => ⟨_, _, rfl, Or.inr rfl, by simp⟩
theorem LD_C_D : Statement .LD_C_D := fun _ => ⟨_, _, rfl, Or.inr rfl, by simp⟩
theorem LD_C_E : Statement .LD_C_E := fun _ => ⟨_, _, rfl, Or.inr rfl, by simp⟩
theorem LD_C_H : Statement .LD_C_H := fun _ => ⟨_, _, rfl, Or.inr rfl, by simp⟩
theorem LD_C_L : Statement .LD_C_L := fun _ => ⟨_, _, rfl, Or.inr rfl, by simp⟩
theorem LD_C__HL : Statement .LD_C__HL := fun _ => ⟨_, _, rfl, Or.inr rfl, by simp⟩
theorem LD_C_A : Statement .LD_C_A := fun _ => ⟨_, _, rfl, Or.inr rfl, by simp⟩
theorem LD_D_B : Statement .LD_D_B := fun _ => ⟨_, _, rfl, Or.inr rfl, by simp⟩
theorem LD_D_C : Statement .LD_D_C := fun _ => ⟨_, _, rfl, Or.inr rfl, by simp⟩
theorem LD_D_D : Statement .LD_D_D := fun _ => ⟨_, _, rfl, Or.inr rfl, by simp⟩
theorem LD_D_E : Statement .LD_D_E := fun _ => ⟨_, _, rfl, Or.inr rfl, by simp⟩
theorem LD_D_H : Statement .LD_D_H := fun _ => ⟨_, _, rfl, Or.inr rfl, by simp⟩
theorem LD_D_L : Statement .LD_D_L := fun _ => ⟨_, _, rfl, Or.inr rfl, by simp⟩
theorem LD_D__HL : Statement .LD_D__HL := fun _ => ⟨_, _, rfl, Or.inr rfl, by simp⟩
theorem LD_D_A : Statement .LD_D_A := fun _ => ⟨_, _, rfl, Or.inr rfl, by simp⟩
theorem LD_E_B : Statement .LD_E_B := fun _ => ⟨_, _, rfl, Or.inr rfl, by simp⟩
theorem LD_E_C : Statement .LD_E_C := fun _ => ⟨_, _, rfl, Or.inr rfl, by simp⟩
theorem LD_E_D : Statement .LD_E_D := fun _ => ⟨_, _, rfl, Or.inr rfl, by simp⟩
theorem LD_E_E : Statement .LD_E_E := fun _ => ⟨_, _, rfl, Or.inr rfl, by simp⟩
theorem LD_E_H : Statement .LD_E_H := fun _ => ⟨_, _, rfl, Or.inr rfl, by simp⟩
theorem LD_E_L : Statement .LD_E_L := fun _ => ⟨_, _, rfl, Or.inr rfl, by simp⟩
theorem LD_E__HL : Statement .LD_E__HL := fun _ => ⟨_, _, rfl, Or.inr rfl, by simp⟩
theorem LD_E_A : Statement .LD_E_A := fun _ => ⟨_, _, rfl, Or.inr rfl, by simp⟩
theorem LD_H_B : Statement .LD_H_B := fun _ => ⟨_, _, rfl, Or.inr rfl, by simp⟩
theorem LD_H_C : Statement .LD_H_C := fun _ => ⟨_, _, rfl, Or.inr rfl, by simp⟩
theorem LD_H_D : Statement .LD_H_D := fun _ => ⟨_, _, rfl, Or.inr rfl, by simp⟩
theorem LD_H_E : Statement .LD_H_E := fun _ => ⟨_, _, rfl, Or.inr rfl, by simp⟩
theorem LD_H_H : Statement .LD_H_H := fun _ => ⟨_, _, rfl, Or.inr rfl, by simp⟩
theorem LD_H_L : Statement .LD_H_L := fun _ => ⟨_, _, rfl, Or.inr rfl, by simp⟩
theorem LD_H__HL : Statement .LD_H__HL := fun _ => ⟨_, _, rfl, Or.inr rfl, by simp⟩
theorem LD_H_A : Statement .LD_H_A := fun _ => ⟨_, _, rfl, Or.inr rfl, by simp⟩
theorem LD_L_B : Statement .LD_L_B := fun _ => ⟨_, _, rfl, Or.inr rfl, by simp⟩
theorem LD_L_C : Statement .LD_L_C := fun _ => ⟨_, _, rfl, Or.inr rfl, by simp⟩
theorem LD_L_D : Statement .LD_L_D := fun _ => ⟨_, _, rfl, Or.inr rfl, by simp⟩
theorem LD_L_E : Statement .LD_L_E := fun _ => ⟨_, _, rfl, Or.inr rfl, by simp⟩
theorem LD_L_H : Statement .LD_L_H := fun _ => ⟨_, _, rfl, Or.inr rfl, by simp⟩
theorem LD_L_L : Statement .LD_L_L := fun _ => ⟨_, _, rfl, Or.inr rfl, by simp⟩
theorem LD_L__HL : Statement .LD_L__HL := fun _ => ⟨_, _, rfl, Or.inr rfl, by simp⟩
theorem LD_L_A : Statement .LD_L_A := fun _ => ⟨_, _, rfl, Or.inr rfl, by simp⟩
theorem LD__HL__B : Statement .LD__HL__B := fun _ => ⟨_, _, rfl, Or.inr rfl, by simp⟩
theorem LD__HL__C : Statement .LD__HL__C := fun _ => ⟨_, _, rfl, Or.inr rfl, by simp⟩
theorem LD__HL__D : Statement .LD__HL__D := fun _ => ⟨_, _, rfl, Or.inr rfl, by simp⟩
theorem LD__HL__E : Statement .LD__HL__E := fun _ => ⟨_, _, rfl, Or.inr rfl, by simp⟩
theorem LD__HL__H : Statement .LD__HL__H := fun _ => ⟨_, _, rfl, Or.inr rfl, by simp⟩
theorem LD__HL__L : Statement .LD__HL__L := fun _ => ⟨_, _, rfl, Or.inr rfl, by simp⟩
theorem HALT : Statement .HALT := fun _ => ⟨_, _, rfl, Or.inr rfl, by simp⟩
theorem LD__HL__A : Statement .LD__HL__A := fun _ => ⟨_, _, rfl, Or.inr rfl, by simp⟩
theorem LD_A_B : Statement .LD_A_B := fun _ => ⟨_, _, rfl, Or.inr rfl, by simp⟩
theorem LD_A_C : Statement .LD_A_C := fun _ => ⟨_, _, rfl, Or.inr rfl, by simp⟩
theorem LD_A_D : Statement .LD_A_D := fun _ => ⟨_, _, rfl, Or.inr rfl, by simp⟩
theorem LD_A_E : Statement .LD_A_E := fun _ => ⟨_, _, rfl, Or.inr rfl, by simp⟩
theorem LD_A_H : Statement .LD_A_H := fun _ => ⟨_, _, rfl, Or.inr rfl, by simp⟩
theorem LD_A_L : Statement .LD_A_L := fun _ => ⟨_, _, rfl, Or.inr rfl, by simp⟩
theorem LD_A__HL : Statement .LD_A__HL := fun _ => ⟨_, _, rfl, Or.inr rfl, by simp⟩
theorem LD_A_A : Statement .LD_A_A := fun _ => ⟨_, _, rfl, Or.inr rfl, by simp⟩
theorem ADD_A_B : Statement .ADD_A_B := fun _ => ⟨_, _, rfl, Or.inr rfl, by simp⟩
theorem ADD_A_C : Statement .ADD_A_C := fun _ => ⟨_, _, rfl, Or.inr rfl, by simp⟩
theorem ADD_A_D : Statement .ADD_A_D := fun _ => ⟨_, _, rfl, Or.inr rfl, by simp⟩
theorem ADD_A_E : Statement .ADD_A_E := fun _ => ⟨_, _, rfl, Or.inr rfl, by simp⟩
theorem ADD_A_H : Statement .ADD_A_H := fun _ => ⟨_, _, rfl, Or.inr rfl, by simp⟩
theorem ADD_A_L : Statement .ADD_A_L := fun _ => ⟨_, _, rfl, Or.inr rfl, by simp⟩
theorem ADD_A__HL : Statement .ADD_A__HL := fun _ => ⟨_, _, rfl, Or.inr rfl, by simp⟩
theorem ADD_A_A : Statement .ADD_A_A := fun _ => ⟨_, _, rfl, Or.inr rfl, by simp⟩
theorem ADC_A_B : Statement .ADC_A_B := fun _ => ⟨_, _, rfl, Or.inr rfl, by simp⟩
theorem ADC_A_C : Statement .ADC_A_C := fun _ => ⟨_, _, rfl, Or.inr rfl, by simp⟩
theorem ADC_A_D : Statement .ADC_A_D := fun _ => ⟨_, _, rfl, Or.inr rfl, by simp⟩
theorem ADC_A_E : Statement .ADC_A_E := fun _ => ⟨_, _, rfl, Or.inr rfl, by simp⟩
theorem ADC_A_H : Statement .ADC_A_H := fun _ => ⟨_, _, rfl, Or.inr rfl, by simp⟩
theorem ADC_A_L : Statement .ADC_A_L := fun _ => ⟨_, _, rfl, Or.inr rfl, by simp⟩
theorem ADC_A__HL : Statement .ADC_A__HL := fun _ => ⟨_, _, rfl, Or.inr rfl, by simp⟩
theorem ADC_A_A : Statement .ADC_A_A := fun _ => ⟨_, _, rfl, Or.inr rfl, by simp⟩
theorem SUB_B : Statement .SUB_B := fun _ => ⟨_, _, rfl, Or.inr rfl, by simp⟩
theorem SUB_C : Statement .SUB_C := fun _ => ⟨_, _, rfl, Or.inr rfl, by simp⟩
theorem SUB_D : Statement .SUB_D := fun _ => ⟨_, _, rfl, Or.inr rfl, by simp⟩
theorem SUB_E : Statement .SUB_E := fun _ => ⟨_, _, rfl, Or.inr rfl, by simp⟩
theorem SUB_H : Statement .SUB_H := fun _ => ⟨_, _, rfl, Or.inr rfl, by simp⟩
theorem SUB_L : Statement .SUB_L := fun _ => ⟨_, _, rfl, Or.inr rfl, by simp⟩
theorem SUB__HL : Statement .SUB__HL := fun _ => ⟨_, _, rfl, Or.inr rfl, by simp⟩
theorem SUB_A : Statement .SUB_A := fun _ => ⟨_, _, rfl, Or.inr rfl, by simp⟩
theorem SBC_A_B : Statement .SBC_A_B := fun _ => ⟨_, _, rfl, Or.inr rfl, by simp⟩
theorem SBC_A_C : Statement .SBC_A_C := fun _ => ⟨_, _, rfl, Or.inr rfl, by simp⟩
theorem SBC_A_D : Statement .SBC_A_D := fun _ => ⟨_, _, rfl, Or.inr rfl, by simp⟩
theorem SBC_A_E : Statement .SBC_A_E := fun _ => ⟨_, _, rfl, Or.inr rfl, by simp⟩
theorem SBC_A_H : Statement .SBC_A_H := fun _ => ⟨_, _, rfl, Or.inr rfl, by simp⟩
theorem SBC_A_L : Statement .SBC_A_L := fun _ => ⟨_, _, rfl, Or.inr rfl, by simp⟩
theorem SBC_A__HL : Statement .SBC_A__HL := fun _ => ⟨_, _, rfl, Or.inr rfl, by simp⟩
theorem SBC_A_A : Statement .SBC_A_A := fun _ => ⟨_, _, rfl, Or.inr rfl, by simp⟩
theorem AND_B : Statement .AND_B := fun _ => ⟨_, _, rfl, Or.inr rfl, by simp⟩
theorem AND_C : Statement .AND_C := fun _ => ⟨_, _, rfl, Or.inr rfl, by simp⟩
theorem AND_D : Statement .AND_D := fun _ => ⟨_, _, rfl, Or.inr rfl, by simp⟩
theorem AND_E : Statement .AND_E := fun _ => ⟨_, _, rfl, Or.inr rfl, by simp⟩
theorem AND_H : Statement .AND_H := fun _ => ⟨_, _, rfl, Or.inr rfl, by simp⟩
theorem AND_L : Statement .AND_L := fun _ => ⟨_, _, rfl, Or.inr rfl, by simp⟩
theorem AND__HL : Statement .AND__HL := fun _ => ⟨_, _, rfl, Or.inr rfl, by simp⟩
theorem AND_A : Statement .AND_A := fun _ => ⟨_, _, rfl, Or.inr rfl, by simp⟩
theorem XOR_B : Statement .XOR_B := fun _ => ⟨_, _, rfl, Or.inr rfl, by simp⟩
theorem XOR_C : Statement .XOR_C := fun _ => ⟨_, _, rfl, Or.inr rfl, by simp⟩
theorem XOR_D : Statement .XOR_D := fun _ => ⟨_, _, rfl, Or.inr rfl, by simp⟩
theorem XOR_E : Statement .XOR_E := fun _ => ⟨_, _, rfl, Or.inr rfl, by simp⟩
theorem XOR_H : Statement .XOR_H := fun _ => ⟨_, _, rfl, Or.inr rfl, by simp⟩
theorem XOR_L : Statement .XOR_L := fun _ => ⟨_, _, rfl, Or.inr rfl, by simp⟩
theorem XOR__HL : Statement .XOR__HL := fun _ => ⟨_, _, rfl, Or.inr rfl, by simp⟩
theorem XOR_A : Statement .XOR_A := fun _ => ⟨_, _, rfl, Or.inr rfl, by simp⟩
theorem OR_B : Statement .OR_B := fun _ => ⟨_, _, rfl, Or.inr rfl, by simp⟩
theorem OR_C : Statement .OR_C := fun _ => ⟨_, _, rfl, Or.inr rfl, by simp⟩
theorem OR_D : Statement .OR_D := fun _ => ⟨_, _, rfl, Or.inr rfl, by simp⟩
theorem OR_E : Statement .OR_E := fun _ => ⟨_, _, rfl, Or.inr rfl, by simp⟩
theorem OR_H : Statement .OR_H := fun _ => ⟨_, _, rfl, Or.inr rfl, by simp⟩
theorem OR_L : Statement .OR_L := fun _ => ⟨_, _, rfl, Or.inr rfl, by simp⟩
theorem OR__HL : Statement .OR__HL := fun _ => ⟨_, _, rfl, Or.inr rfl, by simp⟩
theorem OR_A : Statement .OR_A := fun _ => ⟨_, _, rfl, Or.inr rfl, by simp⟩
theorem CP_B : Statement .CP_B := fun _ => ⟨_, _, rfl, Or.inr rfl, by simp⟩
theorem CP_C : Statement .CP_C := fun _ => ⟨_, _, rfl, Or.inr rfl, by simp⟩
theorem CP_D : Statement .CP_D := fun _ => ⟨_, _, rfl, Or.inr rfl, by simp⟩
theorem CP_E : Statement .CP_E := fun _ => ⟨_, _, rfl, Or.inr rfl, by simp⟩
theorem CP_H : Statement .CP_H := fun _ => ⟨_, _, rfl, Or.inr rfl, by simp⟩
theorem CP_L : Statement .CP_L := fun _ => ⟨_, _, rfl, Or.inr rfl, by simp⟩
theorem CP__HL : Statement .CP__HL := fun _ => ⟨_, _, rfl, Or.inr rfl, by simp⟩
theorem CP_A : Statement .CP_A := fun _ => ⟨_, _, rfl, Or.inr rfl, by simp⟩
theorem RET_NZ : Statement .RET_NZ := fun _ => ⟨_, _, rfl, Or.inr rfl, by simp⟩
theorem POP_BC : Statement .POP_BC := fun _ => ⟨_, _, rfl, Or.inr rfl, by simp⟩
theorem JP_NZ_a16 (nn : Word) : Statement (.JP_NZ_a16 nn) := fun _ => ⟨_, _, rfl, Or.inr rfl, by simp⟩
theorem JP_a16 (nn : Word) : Statement (.JP_a16 nn) := fun _ => ⟨_, _, rfl, Or.inr rfl, by simp⟩
theorem CALL_NZ_a16 (nn : Word) : Statement (.CALL_NZ_a16 nn) := fun _ => ⟨_, _, rfl, Or.inr rfl, by simp⟩
theorem PUSH_BC : Statement .PUSH_BC := fun _ => ⟨_, _, rfl, Or.inr rfl, by simp⟩
theorem ADD_A_d8 (n : Byte) : Statement (.ADD_A_d8 n) := fun _ => ⟨_, _, rfl, Or.inr rfl, by simp⟩
theorem RST_0x00 : Statement .RST_0x00 := fun _ => ⟨_, _, rfl, Or.inr rfl, by simp⟩
theorem RET_Z : Statement .RET_Z := fun _ => ⟨_, _, rfl, Or.inr rfl, by simp⟩
theorem RET : Statement .RET := fun _ => ⟨_, _, rfl, Or.inr rfl, by simp⟩
theorem JP_Z_a16 (nn : Word) : Statement (.JP_Z_a16 nn) := fun _ => ⟨_, _, rfl, Or.inr rfl, by simp⟩
theorem CALL_Z_a16 (nn : Word) : Statement (.CALL_Z_a16 nn) := fun _ => ⟨_, _, rfl, Or.inr rfl, by simp⟩
theorem CALL_a16 (nn : Word) : Statement (.CALL_a16 nn) := fun _ => ⟨_, _, rfl, Or.inr rfl, by simp⟩
theorem ADC_A_d8 (n : Byte) : Statement (.ADC_A_d8 n) := fun _ => ⟨_, _, rfl, Or.inr rfl, by simp⟩
theorem RST_0x08 : Statement .RST_0x08 := fun _ => ⟨_, _, rfl, Or.inr rfl, by simp⟩
theorem RET_NC : Statement .RET_NC := fun _ => ⟨_, _, rfl, Or.inr rfl, by simp⟩
theorem POP_DE : Statement .POP_DE := fun _ => ⟨_, _, rfl, Or.inr rfl, by simp⟩
theorem JP_NC_a16 (nn : Word) : Statement (.JP_NC_a16 nn) := fun _ => ⟨_, _, rfl, Or.inr rfl, by simp⟩
theorem UNDEFINED (op : Byte) : Statement (.UNDEFINED op) := fun h => by
  refine ⟨op, [], rfl, Or.inr ?_, by simp⟩
  revert h; revert op; decide
theorem CALL_NC_a16 (nn : Word) : Statement (.CALL_NC_a16 nn) := fun _ => ⟨_, _, rfl, Or.inr rfl, by simp⟩
theorem PUSH_DE : Statement .PUSH_DE := fun _ => ⟨_, _, rfl, Or.inr rfl, by simp⟩
theorem SUB_d8 (n : Byte) : Statement (.SUB_d8 n) := fun _ => ⟨_, _, rfl, Or.inr rfl, by simp⟩
theorem RST_0x10 : Statement .RST_0x10 := fun _ => ⟨_, _, rfl, Or.inr rfl, by simp⟩
theorem RET_C : Statement .RET_C := fun _ => ⟨_, _, rfl, Or.inr rfl, by simp⟩
theorem RETI : Statement .RETI := fun _ => ⟨_, _, rfl, Or.inr rfl, by simp⟩
theorem JP_C_a16 (nn : Word) : Statement (.JP_C_a16 nn) := fun _ => ⟨_, _, rfl, Or.inr rfl, by simp⟩
theorem CALL_C_a16 (nn : Word) : Statement (.CALL_C_a16 nn) := fun _ => ⟨_, _, rfl, Or.inr rfl, by simp⟩
theorem SBC_A_d8 (n : Byte) : Statement (.SBC_A_d8 n) := fun _ => ⟨_, _, rfl, Or.inr rfl, by simp⟩
theorem RST_0x18 : Statement .RST_0x18 := fun _ => ⟨_, _, rfl, Or.inr rfl, by simp⟩
theorem LDH__a8__A (a : Byte) : Statement (.LDH__a8__A a) := fun _ => ⟨_, _, rfl, Or.inr rfl, by simp⟩
theorem POP_HL : Statement .POP_HL := fun _ => ⟨_, _, rfl, Or.inr rfl, by simp⟩
theorem LD__C__A : Statement .LD__C__A := fun _ => ⟨_, _, rfl, Or.inr rfl, by simp⟩
theorem PUSH_HL : Statement .PUSH_HL := fun _ => ⟨_, _, rfl, Or.inr rfl, by simp⟩
theorem AND_d8 (n : Byte) : Statement (.AND_d8 n) := fun _ => ⟨_, _, rfl, Or.inr rfl, by simp⟩
theorem RST_0x20 : Statement .RST_0x20 := fun _ => ⟨_, _, rfl, Or.inr rfl, by simp⟩
theorem ADD_SP_r8 (e : Byte) : Statement (.ADD_SP_r8 e) := fun _ => ⟨_, _, rfl, Or.inr rfl, by simp⟩
theorem JP__HL : Statement .JP__HL := fun _ => ⟨_, _, rfl, Or.inr rfl, by simp⟩
theorem LD__a16__A (nn : Word) : Statement (.LD__a16__A nn) := fun _ => ⟨_, _, rfl, Or.inr rfl, by simp⟩
theorem XOR_d8 (n : Byte) : Statement (.XOR_d8 n) := fun _ => ⟨_, _, rfl, Or.inr rfl, by simp⟩
theorem RST_0x28 : Statement .RST_0x28 := fun _ => ⟨_, _, rfl, Or.inr rfl, by simp⟩
theorem LDH_A__a8 (a : Byte) : Statement (.LDH_A__a8 a) := fun _ => ⟨_, _, rfl, Or.inr rfl, by simp⟩
theorem POP_AF : Statement .POP_AF := fun _ => ⟨_, _, rfl, Or.inr rfl, by simp⟩
theorem LD_A__C : Statement .LD_A__C := fun _ => ⟨_, _, rfl, Or.inr rfl, by simp⟩
theorem DI : Statement .DI := fun _ => ⟨_, _, rfl, Or.inr rfl, by simp⟩
theorem PUSH_AF : Statement .PUSH_AF := fun _ => ⟨_, _, rfl, Or.inr rfl, by simp⟩
theorem OR_d8 (n : Byte) : Statement (.OR_d8 n) := fun _ => ⟨_, _, rfl, Or.inr rfl, by simp⟩
theorem RST_0x30 : Statement .RST_0x30 := fun _ => ⟨_, _, rfl, Or.inr rfl, by simp⟩
theorem LD_HL_SP_r8 (e : Byte) : Statement (.LD_HL_SP_r8 e) := fun _ => ⟨_, _, rfl, Or.inr rfl, by simp⟩
theorem LD_SP_HL : Statement .LD_SP_HL := fun _ => ⟨_, _, rfl, Or.inr rfl, by simp⟩
theorem LD_A__a16 (nn : Word) : Statement (.LD_A__a16 nn) := fun _ => ⟨_, _, rfl, Or.inr rfl, by simp⟩
theorem EI : Statement .EI := fun _ => ⟨_, _, rfl, Or.inr rfl, by simp⟩
theorem CP_d8 (n : Byte) : Statement (.CP_d8 n) := fun _ => ⟨_, _, rfl, Or.inr rfl, by simp⟩
theorem RST_0x38 : Statement .RST_0x38 := fun _ => ⟨_, _, rfl, Or.inr rfl, by simp⟩
theorem PREFIX_CB : Statement .PREFIX_CB := fun _ => ⟨_, _, rfl, Or.inl rfl, by decide⟩
theorem RLC_B : Statement .RLC_B := fun _ => ⟨_, _, rfl, Or.inr rfl, by simp⟩
theorem RLC_C : Statement .RLC_C := fun _ => ⟨_, _, rfl, Or.inr rfl, by simp⟩
theorem RLC_D : Statement .RLC_D := fun _ => ⟨_, _, rfl, Or.inr rfl, by simp⟩
theorem RLC_E : Statement .RLC_E := fun _ => ⟨_, _, rfl, Or.inr rfl, by simp⟩
theorem RLC_H : Statement .RLC_H := fun _ => ⟨_, _, rfl, Or.inr rfl, by simp⟩
theorem RLC_L : Statement .RLC_L := fun _ => ⟨_, _, rfl, Or.inr rfl, by simp⟩
theorem RLC__HL : Statement .RLC__HL := fun _ => ⟨_, _, rfl, Or.inr rfl, by simp⟩
theorem RLC_A : Statement .RLC_A := fun _ => ⟨_, _, rfl, Or.inr rfl, by simp⟩
theorem RRC_B : Statement .RRC_B := fun _ => ⟨_, _, rfl, Or.inr rfl, by simp⟩
theorem RRC_C : Statement .RRC_C := fun _ => ⟨_, _, rfl, Or.inr rfl, by simp⟩
theorem RRC_D : Statement .RRC_D := fun _ => ⟨_, _, rfl, Or.inr rfl, by simp⟩
theorem RRC_E : Statement .RRC_E := fun _ => ⟨_, _, rfl, Or.inr rfl, by simp⟩
theorem RRC_H : Statement .RRC_H := fun _ => ⟨_, _, rfl, Or.inr rfl, by simp⟩
theorem RRC_L : Statement .RRC_L := fun _ => ⟨_, _, rfl, Or.inr rfl, by simp⟩
theorem RRC__HL : Statement .RRC__HL := fun _ => ⟨_, _, rfl, Or.inr rfl, by simp⟩
theorem RRC_A : Statement .RRC_A := fun _ => ⟨_, _, rfl, Or.inr rfl, by simp⟩
theorem RL_B : Statement .RL_B := fun _ => ⟨_, _, rfl, Or.inr rfl, by simp⟩
theorem RL_C : Statement .RL_C := fun _ => ⟨_, _, rfl, Or.inr rfl, by simp⟩
theorem RL_D : Statement .RL_D := fun _ => ⟨_, _, rfl, Or.inr rfl, by simp⟩
theorem RL_E : Statement .RL_E := fun _ => ⟨_, _, rfl, Or.inr rfl, by simp⟩
theorem RL_H : Statement .RL_H := fun _ => ⟨_, _, rfl, Or.inr rfl, by simp⟩
theorem RL_L : Statement .RL_L := fun _ => ⟨_, _, rfl, Or.inr rfl, by simp⟩
theorem RL__HL : Statement .RL__HL := fun _ => ⟨_, _, rfl, Or.inr rfl, by simp⟩
theorem RL_A : Statement .RL_A := fun _ => ⟨_, _, rfl, Or.inr rfl, by simp⟩
theorem RR_B : Statement .RR_B := fun _ => ⟨_, _, rfl, Or.inr rfl, by simp⟩
theorem RR_C : Statement .RR_C := fun _ => ⟨_, _, rfl, Or.inr rfl, by simp⟩
theorem RR_D : Statement .RR_D := fun _ => ⟨_, _, rfl, Or.inr rfl, by simp⟩
theorem RR_E : Statement .RR_E := fun _ => ⟨_, _, rfl, Or.inr rfl, by simp⟩
theorem RR_H : Statement .RR_H := fun _ => ⟨_, _, rfl, Or.inr rfl, by simp⟩
theorem RR_L : Statement .RR_L := fun _ => ⟨_, _, rfl, Or.inr rfl, by simp⟩
theorem RR__HL : Statement .RR__HL := fun _ => ⟨_, _, rfl, Or.inr rfl, by simp⟩
theorem RR_A : Statement .RR_A := fun _ => ⟨_, _, rfl, Or.inr rfl, by simp⟩
theorem SLA_B : Statement .SLA_B := fun _ => ⟨_, _, rfl, Or.inr rfl, by simp⟩
theorem SLA_C : Statement .SLA_C := fun _ => ⟨_, _, rfl, Or.inr rfl, by simp⟩
theorem SLA_D : Statement .SLA_D := fun _ => ⟨_, _, rfl, Or.inr rfl, by simp⟩
theorem SLA_E : Statement .SLA_E := fun _ => ⟨_, _, rfl, Or.inr rfl, by simp⟩
theorem SLA_H : Statement .SLA_H := fun _ => ⟨_, _, rfl, Or.inr rfl, by simp⟩
theorem SLA_L : Statement .SLA_L := fun _ => ⟨_, _, rfl, Or.inr rfl, by simp⟩
theorem SLA__HL : Statement .SLA__HL := fun _ => ⟨_, _, rfl, Or.inr rfl, by simp⟩
theorem SLA_A : Statement .SLA_A := fun _ => ⟨_, _, rfl, Or.inr rfl, by simp⟩
theorem SRA_B : Statement .SRA_B := fun _ => ⟨_, _, rfl, Or.inr rfl, by simp⟩
theorem SRA_C : Statement .SRA_C := fun _ => ⟨_, _, rfl, Or.inr rfl, by simp⟩
theorem SRA_D : Statement .SRA_D := fun _ => ⟨_, _, rfl, Or.inr rfl, by simp⟩
theorem SRA_E : Statement .SRA_E := fun _ => ⟨_, _, rfl, Or.inr rfl, by simp⟩
theorem SRA_H : Statement .SRA_H := fun _ => ⟨_, _, rfl, Or.inr rfl, by simp⟩
theorem SRA_L : Statement .SRA_L := fun _ => ⟨_, _, rfl, Or.inr rfl, by simp⟩
theorem SRA__HL : Statement .SRA__HL := fun _ => ⟨_, _, rfl, Or.inr rfl, by simp⟩
theorem SRA_A : Statement .SRA_A := fun _ => ⟨_, _, rfl, Or.inr rfl, by simp⟩
theorem SWAP_B : Statement .SWAP_B := fun _ => ⟨_, _, rfl, Or.inr rfl, by simp⟩
theorem SWAP_C : Statement .SWAP_C := fun _ => ⟨_, _, rfl, Or.inr rfl, by simp⟩
theorem SWAP_D : Statement .SWAP_D := fun _ => ⟨_, _, rfl, Or.inr rfl, by simp⟩
theorem SWAP_E : Statement .SWAP_E := fun _ => ⟨_, _, rfl, Or.inr rfl, by simp⟩
theorem SWAP_H : Statement .SWAP_H := fun _ => ⟨_, _, rfl, Or.inr rfl, by simp⟩
theorem SWAP_L : Statement .SWAP_L := fun _ => ⟨_, _, rfl, Or.inr rfl, by simp⟩
theorem SWAP__HL : Statement .SWAP__HL := fun _ => ⟨_, _, rfl, Or.inr rfl, by simp⟩
theorem SWAP_A : Statement .SWAP_A := fun _ => ⟨_, _, rfl, Or.inr rfl, by simp⟩
theorem SRL_B : Statement .SRL_B := fun _ => ⟨_, _, rfl, Or.inr rfl, by simp⟩
theorem SRL_C : Statement .SRL_C := fun _ => ⟨_, _, rfl, Or.inr rfl, by simp⟩
theorem SRL_D : Statement .SRL_D := fun _ => ⟨_, _, rfl, Or.inr rfl, by simp⟩
theorem SRL_E : Statement .SRL_E := fun _ => ⟨_, _, rfl, Or.inr rfl, by simp⟩
theorem SRL_H : Statement .SRL_H := fun _ => ⟨_, _, rfl, Or.inr rfl, by simp⟩
theorem SRL_L : Statement .SRL_L := fun _ => ⟨_, _, rfl, Or.inr rfl, by simp⟩
theorem SRL__HL : Statement .SRL__HL := fun _ => ⟨_, _, rfl, Or.inr rfl, by simp⟩
theorem SRL_A : Statement .SRL_A := fun _ => ⟨_, _, rfl, Or.inr rfl, by simp⟩
theorem BIT_0_B : Statement .BIT_0_B := fun _ => ⟨_, _, rfl, Or.inr rfl, by simp⟩
theorem BIT_0_C : Statement .BIT_0_C := fun _ => ⟨_, _, rfl, Or.inr rfl, by simp⟩
theorem BIT_0_D : Statement .BIT_0_D := fun _ => ⟨_, _, rfl, Or.inr rfl, by simp⟩
theorem BIT_0_E : Statement .BIT_0_E := fun _ => ⟨_, _, rfl, Or.inr rfl, by simp⟩
theorem BIT_0_H : Statement .BIT_0_H := fun _ => ⟨_, _, rfl, Or.inr rfl, by simp⟩
theorem BIT_0_L : Statement .BIT_0_L := fun _ => ⟨_, _, rfl, Or.inr rfl, by simp⟩
theorem BIT_0__HL : Statement .BIT_0__HL := fun _ => ⟨_, _, rfl, Or.inr rfl, by simp⟩
theorem BIT_0_A : Statement .BIT_0_A := fun _ => ⟨_, _, rfl, Or.inr rfl, by simp⟩
theorem BIT_1_B : Statement .BIT_1_B := fun _ => ⟨_, _, rfl, Or.inr rfl, by simp⟩
theorem BIT_1_C : Statement .BIT_1_C := fun _ => ⟨_, _, rfl, Or.inr rfl, by simp⟩
theorem BIT_1_D : Statement .BIT_1_D := fun _ => ⟨_, _, rfl, Or.inr rfl, by simp⟩
theorem BIT_1_E : Statement .BIT_1_E := fun _ => ⟨_, _, rfl, Or.inr rfl, by simp⟩
theorem BIT_1_H : Statement .BIT_1_H := fun _ => ⟨_, _, rfl, Or.inr rfl, by simp⟩
theorem BIT_1_L : Statement .BIT_1_L := fun _ => ⟨_, _, rfl, Or.inr rfl, by simp⟩
theorem BIT_1__HL : Statement .BIT_1__HL := fun _ => ⟨_, _, rfl, Or.inr rfl, by simp⟩
theorem BIT_1_A : Statement .BIT_1_A := fun _ => ⟨_, _, rfl, Or.inr rfl, by simp⟩
theorem BIT_2_B : Statement .BIT_2_B := fun _ => ⟨_, _, rfl, Or.inr rfl, by simp⟩
theorem BIT_2_C : Statement .BIT_2_C := fun _ => ⟨_, _, rfl, Or.inr rfl, by simp⟩
theorem BIT_2_D : Statement .BIT_2_D := fun _ => ⟨_, _, rfl, Or.inr rfl, by simp⟩
theorem BIT_2_E : Statement .BIT_2_E := fun _ => ⟨_, _, rfl, Or.inr rfl, by simp⟩
theorem BIT_2_H : Statement .BIT_2_H := fun _ => ⟨_, _, rfl, Or.inr rfl, by simp⟩
theorem BIT_2_L : Statement .BIT_2_L := fun _ => ⟨_, _, rfl, Or.inr rfl, by simp⟩
theorem BIT_2__HL : Statement .BIT_2__HL := fun _ => ⟨_, _, rfl, Or.inr rfl, by simp⟩
theorem BIT_2_A : Statement .BIT_2_A := fun _ => ⟨_, _, rfl, Or.inr rfl, by simp⟩
theorem BIT_3_B : Statement .BIT_3_B := fun _ => ⟨_, _, rfl, Or.inr rfl, by simp⟩
theorem BIT_3_C : Statement .BIT_3_C := fun _ => ⟨_, _, rfl, Or.inr rfl, by simp⟩
theorem BIT_3_D : Statement .BIT_3_D := fun _ => ⟨_, _, rfl, Or.inr rfl, by simp⟩
theorem BIT_3_E : Statement .BIT_3_E := fun _ => ⟨_, _, rfl, Or.inr rfl, by simp⟩
theorem BIT_3_H : Statement .BIT_3_H := fun _ => ⟨_, _, rfl, Or.inr rfl, by simp⟩
theorem BIT_3_L : Statement .BIT_3_L := fun _ => ⟨_, _, rfl, Or.inr rfl, by simp⟩
theorem BIT_3__HL : Statement .BIT_3__HL := fun _ => ⟨_, _, rfl, Or.inr rfl, by simp⟩
theorem BIT_3_A : Statement .BIT_3_A := fun _ => ⟨_, _, rfl, Or.inr rfl, by simp⟩
theorem BIT_4_B : Statement .BIT_4_B := fun _ => ⟨_, _, rfl, Or.inr rfl, by simp⟩
theorem BIT_4_C : Statement .BIT_4_C := fun _ => ⟨_, _, rfl, Or.inr rfl, by simp⟩
theorem BIT_4_D : Statement .BIT_4_D := fun _ => ⟨_, _, rfl, Or.inr rfl, by simp⟩
theorem BIT_4_E : Statement .BIT_4_E := fun _ => ⟨_, _, rfl, Or.inr rfl, by simp⟩
theorem BIT_4_H : Statement .BIT_4_H := fun _ => ⟨_, _, rfl, Or.inr rfl, by simp⟩
theorem BIT_4_L : Statement .BIT_4_L := fun _ => ⟨_, _, rfl, Or.inr rfl, by simp⟩
theorem BIT_4__HL : Statement .BIT_4__HL := fun _ => ⟨_, _, rfl, Or.inr rfl, by simp⟩
theorem BIT_4_A : Statement .BIT_4_A := fun _ => ⟨_, _, rfl, Or.inr rfl, by simp⟩
theorem BIT_5_B : Statement .BIT_5_B := fun _ => ⟨_, _, rfl, Or.inr rfl, by simp⟩
theorem BIT_5_C : Statement .BIT_5_C := fun _ => ⟨_, _, rfl, Or.inr rfl, by simp⟩
theorem BIT_5_D : Statement .BIT_5_D := fun _ => ⟨_, _, rfl, Or.inr rfl, by simp⟩
theorem BIT_5_E : Statement .BIT_5_E := fun _ => ⟨_, _, rfl, Or.inr rfl, by simp⟩
theorem BIT_5_H : Statement .BIT_5_H := fun _ => ⟨_, _, rfl, Or.inr rfl, by simp⟩
theorem BIT_5_L : Statement .BIT_5_L := fun _ => ⟨_, _, rfl, Or.inr rfl, by simp⟩
theorem BIT_5__HL : Statement .BIT_5__HL := fun _ => ⟨_, _, rfl, Or.inr rfl, by simp⟩
theorem BIT_5_A : Statement .BIT_5_A := fun _ => ⟨_, _, rfl, Or.inr rfl, by simp⟩
theorem BIT_6_B : Statement .BIT_6_B := fun _ => ⟨_, _, rfl, Or.inr rfl, by simp⟩
theorem BIT_6_C : Statement .BIT_6_C := fun _ => ⟨_, _, rfl, Or.inr rfl, by simp⟩
theorem BIT_6_D : Statement .BIT_6_D := fun _ => ⟨_, _, rfl, Or.inr rfl, by simp⟩
theorem BIT_6_E : Statement .BIT_6_E := fun _ => ⟨_, _, rfl, Or.inr rfl, by simp⟩
theorem BIT_6_H : Statement .BIT_6_H := fun _ => ⟨_, _, rfl, Or.inr rfl, by simp⟩
theorem BIT_6_L : Statement .BIT_6_L := fun _ => ⟨_, _, rfl, Or.inr rfl, by simp⟩
theorem BIT_6__HL : Statement .BIT_6__HL := fun _ => ⟨_, _, rfl, Or.inr rfl, by simp⟩
theorem BIT_6_A : Statement .BIT_6_A := fun _ => ⟨_, _, rfl, Or.inr rfl, by simp⟩
theorem BIT_7_B : Statement .BIT_7_B := fun _ => ⟨_, _, rfl, Or.inr rfl, by simp⟩
theorem BIT_7_C : Statement .BIT_7_C := fun _ => ⟨_, _, rfl, Or.inr rfl, by simp⟩
theorem BIT_7_D : Statement .BIT_7_D := fun _ => ⟨_, _, rfl, Or.inr rfl, by simp⟩
theorem BIT_7_E : Statement .BIT_7_E := fun _ => ⟨_, _, rfl, Or.inr rfl, by simp⟩
theorem BIT_7_H : Statement .BIT_7_H := fun _ => ⟨_, _, rfl, Or.inr rfl, by simp⟩
theorem BIT_7_L : Statement .BIT_7_L := fun _ => ⟨_, _, rfl, Or.inr rfl, by simp⟩
theorem BIT_7__HL : Statement .BIT_7__HL := fun _ => ⟨_, _, rfl, Or.inr rfl, by simp⟩
theorem BIT_7_A : Statement .BIT_7_A := fun _ => ⟨_, _, rfl, Or.inr rfl, by simp⟩
theorem RES_0_B : Statement .RES_0_B := fun _ => ⟨_, _, rfl, Or.inr rfl, by simp⟩
theorem RES_0_C : Statement .RES_0_C := fun _ => ⟨_, _, rfl, Or.inr rfl, by simp⟩
theorem RES_0_D : Statement .RES_0_D := fun _ => ⟨_, _, rfl, Or.inr rfl, by simp⟩
theorem RES_0_E : Statement .RES_0_E := fun _ => ⟨_, _, rfl, Or.inr rfl, by simp⟩
theorem RES_0_H : Statement .RES_0_H := fun _ => ⟨_, _, rfl, Or.inr rfl, by simp⟩
theorem RES_0_L : Statement .RES_0_L := fun _ => ⟨_, _, rfl, Or.inr rfl, by simp⟩
theorem RES_0__HL : Statement .RES_0__HL := fun _ => ⟨_, _, rfl, Or.inr rfl, by simp⟩
theorem RES_0_A : Statement .RES_0_A := fun _ => ⟨_, _, rfl, Or.inr rfl, by simp⟩
theorem RES_1_B : Statement .RES_1_B := fun _ => ⟨_, _, rfl, Or.inr rfl, by simp⟩
theorem RES_1_C : Statement .RES_1_C := fun _ => ⟨_, _, rfl, Or.inr rfl, by simp⟩
theorem RES_1_D : Statement .RES_1_D := fun _ => ⟨_, _, rfl, Or.inr rfl, by simp⟩
theorem RES_1_E : Statement .RES_1_E := fun _ => ⟨_, _, rfl, Or.inr rfl, by simp⟩
theorem RES_1_H : Statement .RES_1_H := fun _ => ⟨_, _, rfl, Or.inr rfl, by simp⟩
theorem RES_1_L : Statement .RES_1_L := fun _ => ⟨_, _, rfl, Or.inr rfl, by simp⟩
theorem RES_1__HL : Statement .RES_1__HL := fun _ => ⟨_, _, rfl, Or.inr rfl, by simp⟩
theorem RES_1_A : Statement .RES_1_A := fun _ => ⟨_, _, rfl, Or.inr rfl, by simp⟩
theorem RES_2_B : Statement .RES_2_B := fun _ => ⟨_, _, rfl, Or.inr rfl, by simp⟩
theorem RES_2_C : Statement .RES_2_C := fun _ => ⟨_, _, rfl, Or.inr rfl, by simp⟩
theorem RES_2_D : Statement .RES_2_D := fun _ => ⟨_, _, rfl, Or.inr rfl, by simp⟩
theorem RES_2_E : Statement .RES_2_E := fun _ => ⟨_, _, rfl, Or.inr rfl, by simp⟩
theorem RES_2_H : Statement .RES_2_H := fun _ => ⟨_, _, rfl, Or.inr rfl, by simp⟩
theorem RES_2_L : Statement .RES_2_L := fun _ => ⟨_, _, rfl, Or.inr rfl, by simp⟩
theorem RES_2__HL : Statement .RES_2__HL := fun _ => ⟨_, _, rfl, Or.inr rfl, by simp⟩
theorem RES_2_A : Statement .RES_2_A := fun _ => ⟨_, _, rfl, Or.inr rfl, by simp⟩
theorem RES_3_B : Statement .RES_3_B := fun _ => ⟨_, _, rfl, Or.inr rfl, by simp⟩
theorem RES_3_C : Statement .RES_3_C := fun _ => ⟨_, _, rfl, Or.inr rfl, by simp⟩
theorem RES_3_D : Statement .RES_3_D := fun _ => ⟨_, _, rfl, Or.inr rfl, by simp⟩
theorem RES_3_E : Statement .RES_3_E := fun _ => ⟨_, _, rfl, Or.inr rfl, by simp⟩
theorem RES_3_H : Statement .RES_3_H := fun _ => ⟨_, _, rfl, Or.inr rfl, by simp⟩
theorem RES_3_L : Statement .RES_3_L := fun _ => ⟨_, _, rfl, Or.inr rfl, by simp⟩
theorem RES_3__HL : Statement .RES_3__HL := fun _ => ⟨_, _, rfl, Or.inr rfl, by simp⟩
theorem RES_3_A : Statement .RES_3_A := fun _ => ⟨_, _, rfl, Or.inr rfl, by simp⟩
theorem RES_4_B : Statement .RES_4_B := fun _ => ⟨_, _, rfl, Or.inr rfl, by simp⟩
theorem RES_4_C : Statement .RES_4_C := fun _ => ⟨_, _, rfl, Or.inr rfl, by simp⟩
theorem RES_4_D : Statement .RES_4_D := fun _ => ⟨_, _, rfl, Or.inr rfl, by simp⟩
theorem RES_4_E : Statement .RES_4_E := fun _ => ⟨_, _, rfl, Or.inr rfl, by simp⟩
theorem RES_4_H : Statement .RES_4_H := fun _ => ⟨_, _, rfl, Or.inr rfl, by simp⟩
theorem RES_4_L : Statement .RES_4_L := fun _ => ⟨_, _, rfl, Or.inr rfl, by simp⟩
theorem RES_4__HL : Statement .RES_4__HL := fun _ => ⟨_, _, rfl, Or.inr rfl, by simp⟩
theorem RES_4_A : Statement .RES_4_A := fun _ => ⟨_, _, rfl, Or.inr rfl, by simp⟩
theorem RES_5_B : Statement .RES_5_B := fun _ => ⟨_, _, rfl, Or.inr rfl, by simp⟩
theorem RES_5_C : Statement .RES_5_C := fun _ => ⟨_, _, rfl, Or.inr rfl, by simp⟩
theorem RES_5_D : Statement .RES_5_D := fun _ => ⟨_, _, rfl, Or.inr rfl, by simp⟩
theorem RES_5_E : Statement .RES_5_E := fun _ => ⟨_, _, rfl, Or.inr rfl, by simp⟩
theorem RES_5_H : Statement .RES_5_H := fun _ => ⟨_, _, rfl, Or.inr rfl, by simp⟩
theorem RES_5_L : Statement .RES_5_L := fun _ => ⟨_, _, rfl, Or.inr rfl, by simp⟩
theorem RES_5__HL : Statement .RES_5__HL := fun _ => ⟨_, _, rfl, Or.inr rfl, by simp⟩
theorem RES_5_A : Statement .RES_5_A := fun _ => ⟨_, _, rfl, Or.inr rfl, by simp⟩
theorem RES_6_B : Statement .RES_6_B := fun _ => ⟨_, _, rfl, Or.inr rfl, by simp⟩
theorem RES_6_C : Statement .RES_6_C := fun _ => ⟨_, _, rfl, Or.inr rfl, by simp⟩
theorem RES_6_D : Statement .RES_6_D := fun _ => ⟨_, _, rfl, Or.inr rfl, by simp⟩
theorem RES_6_E : Statement .RES_6_E := fun _ => ⟨_, _, rfl, Or.inr rfl, by simp⟩
theorem RES_6_H : Statement .RES_6_H := fun _ => ⟨_, _, rfl, Or.inr rfl, by simp⟩
theorem RES_6_L : Statement .RES_6_L := fun _ => ⟨_, _, rfl, Or.inr rfl, by simp⟩
theorem RES_6__HL : Statement .RES_6__HL := fun _ => ⟨_, _, rfl, Or.inr rfl, by simp⟩
theorem RES_6_A : Statement .RES_6_A := fun _ => ⟨_, _, rfl, Or.inr rfl, by simp⟩
theorem RES_7_B : Statement .RES_7_B := fun _ => ⟨_, _, rfl, Or.inr rfl, by simp⟩
theorem RES_7_C : Statement .RES_7_C := fun _ => ⟨_, _, rfl, Or.inr rfl, by simp⟩
theorem RES_7_D : Statement .RES_7_D := fun _ => ⟨_, _, rfl, Or.inr rfl, by simp⟩
theorem RES_7_E : Statement .RES_7_E := fun _ => ⟨_, _, rfl, Or.inr rfl, by simp⟩
theorem RES_7_H : Statement .RES_7_H := fun _ => ⟨_, _, rfl, Or.inr rfl, by simp⟩
theorem RES_7_L : Statement .RES_7_L := fun _ => ⟨_, _, rfl, Or.inr rfl, by simp⟩
theorem RES_7__HL : Statement .RES_7__HL := fun _ => ⟨_, _, rfl, Or.inr rfl, by simp⟩
theorem RES_7_A : Statement .RES_7_A := fun _ => ⟨_, _, rfl, Or.inr rfl, by simp⟩
theorem SET_0_B : Statement .SET_0_B := fun _ => ⟨_, _, rfl, Or.inr rfl, by simp⟩
theorem SET_0_C : Statement .SET_0_C := fun _ => ⟨_, _, rfl, Or.inr rfl, by simp⟩
theorem SET_0_D : Statement .SET_0_D := fun _ => ⟨_, _, rfl, Or.inr rfl, by simp⟩
theorem SET_0_E : Statement .SET_0_E := fun _ => ⟨_, _, rfl, Or.inr rfl, by simp⟩
theorem SET_0_H : Statement .SET_0_H := fun _ => ⟨_, _, rfl, Or.inr rfl, by simp⟩
theorem SET_0_L : Statement .SET_0_L := fun _ => ⟨_, _, rfl, Or.inr rfl, by simp⟩
theorem SET_0__HL : Statement .SET_0__HL := fun _ => ⟨_, _, rfl, Or.inr rfl, by simp⟩
theorem SET_0_A : Statement .SET_0_A := fun _ => ⟨_, _, rfl, Or.inr rfl, by simp⟩
theorem SET_1_B : Statement .SET_1_B := fun _ => ⟨_, _, rfl, Or.inr rfl, by simp⟩
theorem SET_1_C : Statement .SET_1_C := fun _ => ⟨_, _, rfl, Or.inr rfl, by simp⟩
theorem SET_1_D : Statement .SET_1_D := fun _ => ⟨_, _, rfl, Or.inr rfl, by simp⟩
theorem SET_1_E : Statement .SET_1_E := fun _ => ⟨_, _, rfl, Or.inr rfl, by simp⟩
theorem SET_1_H : Statement .SET_1_H := fun _ => ⟨_, _, rfl, Or.inr rfl, by simp⟩
theorem SET_1_L : Statement .SET_1_L := fun _ => ⟨_, _, rfl, Or.inr rfl, by simp⟩
theorem SET_1__HL : Statement .SET_1__HL := fun _ => ⟨_, _, rfl, Or.inr rfl, by simp⟩
theorem SET_1_A : Statement .SET_1_A := fun _ => ⟨_, _, rfl, Or.inr rfl, by simp⟩
theorem SET_2_B : Statement .SET_2_B := fun _ => ⟨_, _, rfl, Or.inr rfl, by simp⟩
theorem SET_2_C : Statement .SET_2_C := fun _ => ⟨_, _, rfl, Or.inr rfl, by simp⟩
theorem SET_2_D : Statement .SET_2_D := fun _ => ⟨_, _, rfl, Or.inr rfl, by simp⟩
theorem SET_2_E : Statement .SET_2_E := fun _ => ⟨_, _, rfl, Or.inr rfl, by simp⟩
theorem SET_2_H : Statement .SET_2_H := fun _ => ⟨_, _, rfl, Or.inr rfl, by simp⟩
theorem SET_2_L : Statement .SET_2_L := fun _ => ⟨_, _, rfl, Or.inr rfl, by simp⟩
theorem SET_2__HL : Statement .SET_2__HL := fun _ => ⟨_, _, rfl, Or.inr rfl, by simp⟩
theorem SET_2_A : Statement .SET_2_A := fun _ => ⟨_, _, rfl, Or.inr rfl, by simp⟩
theorem SET_3_B : Statement .SET_3_B := fun _ => ⟨_, _, rfl, Or.inr rfl, by simp⟩
theorem SET_3_C : Statement .SET_3_C := fun _ => ⟨_, _, rfl, Or.inr rfl, by simp⟩
theorem SET_3_D : Statement .SET_3_D := fun _ => ⟨_, _, rfl, Or.inr rfl, by simp⟩
theorem SET_3_E : Statement .SET_3_E := fun _ => ⟨_, _, rfl, Or.inr rfl, by simp⟩
theorem SET_3_H : Statement .SET_3_H := fun _ => ⟨_, _, rfl, Or.inr rfl, by simp⟩
theorem SET_3_L : Statement .SET_3_L := fun _ => ⟨_, _, rfl, Or.inr rfl, by simp⟩
theorem SET_3__HL : Statement .SET_3__HL := fun _ => ⟨_, _, rfl, Or.inr rfl, by simp⟩
theorem SET_3_A : Statement .SET_3_A := fun _ => ⟨_, _, rfl, Or.inr rfl, by simp⟩
theorem SET_4_B : Statement .SET_4_B := fun _ => ⟨_, _, rfl, Or.inr rfl, by simp⟩
theorem SET_4_C : Statement .SET_4_C := fun _ => ⟨_, _, rfl, Or.inr rfl, by simp⟩
theorem SET_4_D : Statement .SET_4_D := fun _ => ⟨_, _, rfl, Or.inr rfl, by simp⟩
theorem SET_4_E : Statement .SET_4_E := fun _ => ⟨_, _, rfl, Or.inr rfl, by simp⟩
theorem SET_4_H : Statement .SET_4_H := fun _ => ⟨_, _, rfl, Or.inr rfl, by simp⟩
theorem SET_4_L : Statement .SET_4_L := fun _ => ⟨_, _, rfl, Or.inr rfl, by simp⟩
theorem SET_4__HL : Statement .SET_4__HL := fun _ => ⟨_, _, rfl, Or.inr rfl, by simp⟩
theorem SET_4_A : Statement .SET_4_A := fun _ => ⟨_, _, rfl, Or.inr rfl, by simp⟩
theorem SET_5_B : Statement .SET_5_B := fun _ => ⟨_, _, rfl, Or.inr rfl, by simp⟩
theorem SET_5_C : Statement .SET_5_C := fun _ => ⟨_, _, rfl, Or.inr rfl, by simp⟩
theorem SET_5_D : Statement .SET_5_D := fun _ => ⟨_, _, rfl, Or.inr rfl, by simp⟩
theorem SET_5_E : Statement .SET_5_E := fun _ => ⟨_, _, rfl, Or.inr rfl, by simp⟩
theorem SET_5_H : Statement .SET_5_H := fun _ => ⟨_, _, rfl, Or.inr rfl, by simp⟩
theorem SET_5_L : Statement .SET_5_L := fun _ => ⟨_, _, rfl, Or.inr rfl, by simp⟩
theorem SET_5__HL : Statement .SET_5__HL := fun _ => ⟨_, _, rfl, Or.inr rfl, by simp⟩
theorem SET_5_A : Statement .SET_5_A := fun _ => ⟨_, _, rfl, Or.inr rfl, by simp⟩
theorem SET_6_B : Statement .SET_6_B := fun _ => ⟨_, _, rfl, Or.inr rfl, by simp⟩
theorem SET_6_C : Statement .SET_6_C := fun _ => ⟨_, _, rfl, Or.inr rfl, by simp⟩
theorem SET_6_D : Statement .SET_6_D := fun _ => ⟨_, _, rfl, Or.inr rfl, by simp⟩
theorem SET_6_E : Statement .SET_6_E := fun _ => ⟨_, _, rfl, Or.inr rfl, by simp⟩
theorem SET_6_H : Statement .SET_6_H := fun _ => ⟨_, _, rfl, Or.inr rfl, by simp⟩
theorem SET_6_L : Statement .SET_6_L := fun _ => ⟨_, _, rfl, Or.inr rfl, by simp⟩
theorem SET_6__HL : Statement .SET_6__HL := fun _ => ⟨_, _, rfl, Or.inr rfl, by simp⟩
theorem SET_6_A : Statement .SET_6_A := fun _ => ⟨_, _, rfl, Or.inr rfl, by simp⟩
theorem SET_7_B : Statement .SET_7_B := fun _ => ⟨_, _, rfl, Or.inr rfl, by simp⟩
theorem SET_7_C : Statement .SET_7_C := fun _ => ⟨_, _, rfl, Or.inr rfl, by simp⟩
theorem SET_7_D : Statement .SET_7_D := fun _ => ⟨_, _, rfl, Or.inr rfl, by simp⟩
theorem SET_7_E : Statement .SET_7_E := fun _ => ⟨_, _, rfl, Or.inr rfl, by simp⟩
theorem SET_7_H : Statement .SET_7_H := fun _ => ⟨_, _, rfl, Or.inr rfl, by simp⟩
theorem SET_7_L : Statement .SET_7_L := fun _ => ⟨_, _, rfl, Or.inr rfl, by simp⟩
theorem SET_7__HL : Statement .SET_7__HL := fun _ => ⟨_, _, rfl, Or.inr rfl, by simp⟩
theorem SET_7_A : Statement .SET_7_A := fun _ => ⟨_, _, rfl, Or.inr rfl, by simp⟩

end Sys2Proof.Laws.EncodingLength
end

