-- ==== Sys2Proof/Tests/Slice0.lean ====
section
/-! SUPPORT. Tests/Slice0.lean: the model's own tests. The words are written out from spec/30_encoding.md and
spec/opcode_table.json; the expected results `V<n>` are the vectors of spec/95_test_vectors.md; the witnesses meet the
hypotheses of the statements in Certificates/Slice0/Obligations.lean. -/

set_option linter.style.nameCheck false

namespace Sys2Proof.Tests

open Sys2Proof Sys2Proof.Machine

/-! ## Well-formedness -/

/-- 0x00 is NOP, not an undefined opcode (R113). -/
theorem test_wf_refuses_defined_opcode : Instr.wf (.UNDEFINED 0x00) = false := by decide
/-- 0xCB is the table switch, not an undefined opcode (R113). -/
theorem test_wf_refuses_prefix_byte : Instr.wf (.UNDEFINED 0xCB) = false := by decide
theorem test_wf_accepts_undefined : Instr.wf (.UNDEFINED 0xED) = true := by decide

/-! ## Decoding: every constructor, from its word -/

/-- The word decodes, whole, to the instruction. -/
def reads (bytes : List Byte) (i : Instr) : Bool :=
  match decode bytes with
  | .ok (j, rest) => decide (j = i) && rest.isEmpty
  | .error _ => false

theorem test_decode_empty : (match decode [] with | .error e => decide (e = .noBytes) | .ok _ => false) = true := by decide
theorem test_decode_missing_operand :
    (match decode [0xC3, 0x50] with | .error e => decide (e = .missingOperand 0xC3) | .ok _ => false) = true := by decide

/-- The primary table, row 0. -/
theorem test_decode_primary_0x :
    (reads [0x00] .NOP && reads [0x01, 0x34, 0x12] (.LD_BC_d16 0x1234) &&
      reads [0x02] .LD__BC__A && reads [0x03] .INC_BC &&
      reads [0x04] .INC_B && reads [0x05] .DEC_B &&
      reads [0x06, 0xA5] (.LD_B_d8 0xA5) && reads [0x07] .RLCA &&
      reads [0x08, 0x34, 0x12] (.LD__a16__SP 0x1234) && reads [0x09] .ADD_HL_BC &&
      reads [0x0A] .LD_A__BC && reads [0x0B] .DEC_BC &&
      reads [0x0C] .INC_C && reads [0x0D] .DEC_C &&
      reads [0x0E, 0xA5] (.LD_C_d8 0xA5) && reads [0x0F] .RRCA) = true := by decide

/-- The primary table, row 1. -/
theorem test_decode_primary_1x :
    (reads [0x10, 0x55] (.STOP 0x55) && reads [0x11, 0x34, 0x12] (.LD_DE_d16 0x1234) &&
      reads [0x12] .LD__DE__A && reads [0x13] .INC_DE &&
      reads [0x14] .INC_D && reads [0x15] .DEC_D &&
      reads [0x16, 0xA5] (.LD_D_d8 0xA5) && reads [0x17] .RLA &&
      reads [0x18, 0xFD] (.JR_r8 0xFD) && reads [0x19] .ADD_HL_DE &&
      reads [0x1A] .LD_A__DE && reads [0x1B] .DEC_DE &&
      reads [0x1C] .INC_E && reads [0x1D] .DEC_E &&
      reads [0x1E, 0xA5] (.LD_E_d8 0xA5) && reads [0x1F] .RRA) = true := by decide

/-- The primary table, row 2. -/
theorem test_decode_primary_2x :
    (reads [0x20, 0xFD] (.JR_NZ_r8 0xFD) && reads [0x21, 0x34, 0x12] (.LD_HL_d16 0x1234) &&
      reads [0x22] .LD__HLI__A && reads [0x23] .INC_HL &&
      reads [0x24] .INC_H && reads [0x25] .DEC_H &&
      reads [0x26, 0xA5] (.LD_H_d8 0xA5) && reads [0x27] .DAA &&
      reads [0x28, 0xFD] (.JR_Z_r8 0xFD) && reads [0x29] .ADD_HL_HL &&
      reads [0x2A] .LD_A__HLI && reads [0x2B] .DEC_HL &&
      reads [0x2C] .INC_L && reads [0x2D] .DEC_L &&
      reads [0x2E, 0xA5] (.LD_L_d8 0xA5) && reads [0x2F] .CPL) = true := by decide

/-- The primary table, row 3. -/
theorem test_decode_primary_3x :
    (reads [0x30, 0xFD] (.JR_NC_r8 0xFD) && reads [0x31, 0x34, 0x12] (.LD_SP_d16 0x1234) &&
      reads [0x32] .LD__HLD__A && reads [0x33] .INC_SP &&
      reads [0x34] .INC__HL && reads [0x35] .DEC__HL &&
      reads [0x36, 0xA5] (.LD__HL__d8 0xA5) && reads [0x37] .SCF &&
      reads [0x38, 0xFD] (.JR_C_r8 0xFD) && reads [0x39] .ADD_HL_SP &&
      reads [0x3A] .LD_A__HLD && reads [0x3B] .DEC_SP &&
      reads [0x3C] .INC_A && reads [0x3D] .DEC_A &&
      reads [0x3E, 0xA5] (.LD_A_d8 0xA5) && reads [0x3F] .CCF) = true := by decide

/-- The primary table, row 4. -/
theorem test_decode_primary_4x :
    (reads [0x40] .LD_B_B && reads [0x41] .LD_B_C &&
      reads [0x42] .LD_B_D && reads [0x43] .LD_B_E &&
      reads [0x44] .LD_B_H && reads [0x45] .LD_B_L &&
      reads [0x46] .LD_B__HL && reads [0x47] .LD_B_A &&
      reads [0x48] .LD_C_B && reads [0x49] .LD_C_C &&
      reads [0x4A] .LD_C_D && reads [0x4B] .LD_C_E &&
      reads [0x4C] .LD_C_H && reads [0x4D] .LD_C_L &&
      reads [0x4E] .LD_C__HL && reads [0x4F] .LD_C_A) = true := by decide

/-- The primary table, row 5. -/
theorem test_decode_primary_5x :
    (reads [0x50] .LD_D_B && reads [0x51] .LD_D_C &&
      reads [0x52] .LD_D_D && reads [0x53] .LD_D_E &&
      reads [0x54] .LD_D_H && reads [0x55] .LD_D_L &&
      reads [0x56] .LD_D__HL && reads [0x57] .LD_D_A &&
      reads [0x58] .LD_E_B && reads [0x59] .LD_E_C &&
      reads [0x5A] .LD_E_D && reads [0x5B] .LD_E_E &&
      reads [0x5C] .LD_E_H && reads [0x5D] .LD_E_L &&
      reads [0x5E] .LD_E__HL && reads [0x5F] .LD_E_A) = true := by decide

/-- The primary table, row 6. -/
theorem test_decode_primary_6x :
    (reads [0x60] .LD_H_B && reads [0x61] .LD_H_C &&
      reads [0x62] .LD_H_D && reads [0x63] .LD_H_E &&
      reads [0x64] .LD_H_H && reads [0x65] .LD_H_L &&
      reads [0x66] .LD_H__HL && reads [0x67] .LD_H_A &&
      reads [0x68] .LD_L_B && reads [0x69] .LD_L_C &&
      reads [0x6A] .LD_L_D && reads [0x6B] .LD_L_E &&
      reads [0x6C] .LD_L_H && reads [0x6D] .LD_L_L &&
      reads [0x6E] .LD_L__HL && reads [0x6F] .LD_L_A) = true := by decide

/-- The primary table, row 7. -/
theorem test_decode_primary_7x :
    (reads [0x70] .LD__HL__B && reads [0x71] .LD__HL__C &&
      reads [0x72] .LD__HL__D && reads [0x73] .LD__HL__E &&
      reads [0x74] .LD__HL__H && reads [0x75] .LD__HL__L &&
      reads [0x76] .HALT && reads [0x77] .LD__HL__A &&
      reads [0x78] .LD_A_B && reads [0x79] .LD_A_C &&
      reads [0x7A] .LD_A_D && reads [0x7B] .LD_A_E &&
      reads [0x7C] .LD_A_H && reads [0x7D] .LD_A_L &&
      reads [0x7E] .LD_A__HL && reads [0x7F] .LD_A_A) = true := by decide

/-- The primary table, row 8. -/
theorem test_decode_primary_8x :
    (reads [0x80] .ADD_A_B && reads [0x81] .ADD_A_C &&
      reads [0x82] .ADD_A_D && reads [0x83] .ADD_A_E &&
      reads [0x84] .ADD_A_H && reads [0x85] .ADD_A_L &&
      reads [0x86] .ADD_A__HL && reads [0x87] .ADD_A_A &&
      reads [0x88] .ADC_A_B && reads [0x89] .ADC_A_C &&
      reads [0x8A] .ADC_A_D && reads [0x8B] .ADC_A_E &&
      reads [0x8C] .ADC_A_H && reads [0x8D] .ADC_A_L &&
      reads [0x8E] .ADC_A__HL && reads [0x8F] .ADC_A_A) = true := by decide

/-- The primary table, row 9. -/
theorem test_decode_primary_9x :
    (reads [0x90] .SUB_B && reads [0x91] .SUB_C &&
      reads [0x92] .SUB_D && reads [0x93] .SUB_E &&
      reads [0x94] .SUB_H && reads [0x95] .SUB_L &&
      reads [0x96] .SUB__HL && reads [0x97] .SUB_A &&
      reads [0x98] .SBC_A_B && reads [0x99] .SBC_A_C &&
      reads [0x9A] .SBC_A_D && reads [0x9B] .SBC_A_E &&
      reads [0x9C] .SBC_A_H && reads [0x9D] .SBC_A_L &&
      reads [0x9E] .SBC_A__HL && reads [0x9F] .SBC_A_A) = true := by decide

/-- The primary table, row A. -/
theorem test_decode_primary_Ax :
    (reads [0xA0] .AND_B && reads [0xA1] .AND_C &&
      reads [0xA2] .AND_D && reads [0xA3] .AND_E &&
      reads [0xA4] .AND_H && reads [0xA5] .AND_L &&
      reads [0xA6] .AND__HL && reads [0xA7] .AND_A &&
      reads [0xA8] .XOR_B && reads [0xA9] .XOR_C &&
      reads [0xAA] .XOR_D && reads [0xAB] .XOR_E &&
      reads [0xAC] .XOR_H && reads [0xAD] .XOR_L &&
      reads [0xAE] .XOR__HL && reads [0xAF] .XOR_A) = true := by decide

/-- The primary table, row B. -/
theorem test_decode_primary_Bx :
    (reads [0xB0] .OR_B && reads [0xB1] .OR_C &&
      reads [0xB2] .OR_D && reads [0xB3] .OR_E &&
      reads [0xB4] .OR_H && reads [0xB5] .OR_L &&
      reads [0xB6] .OR__HL && reads [0xB7] .OR_A &&
      reads [0xB8] .CP_B && reads [0xB9] .CP_C &&
      reads [0xBA] .CP_D && reads [0xBB] .CP_E &&
      reads [0xBC] .CP_H && reads [0xBD] .CP_L &&
      reads [0xBE] .CP__HL && reads [0xBF] .CP_A) = true := by decide

/-- The primary table, row C. -/
theorem test_decode_primary_Cx :
    (reads [0xC0] .RET_NZ && reads [0xC1] .POP_BC &&
      reads [0xC2, 0x34, 0x12] (.JP_NZ_a16 0x1234) && reads [0xC3, 0x34, 0x12] (.JP_a16 0x1234) &&
      reads [0xC4, 0x34, 0x12] (.CALL_NZ_a16 0x1234) && reads [0xC5] .PUSH_BC &&
      reads [0xC6, 0xA5] (.ADD_A_d8 0xA5) && reads [0xC7] .RST_0x00 &&
      reads [0xC8] .RET_Z && reads [0xC9] .RET &&
      reads [0xCA, 0x34, 0x12] (.JP_Z_a16 0x1234) && reads [0xCB] .PREFIX_CB &&
      reads [0xCC, 0x34, 0x12] (.CALL_Z_a16 0x1234) && reads [0xCD, 0x34, 0x12] (.CALL_a16 0x1234) &&
      reads [0xCE, 0xA5] (.ADC_A_d8 0xA5) && reads [0xCF] .RST_0x08) = true := by decide

/-- The primary table, row D. -/
theorem test_decode_primary_Dx :
    (reads [0xD0] .RET_NC && reads [0xD1] .POP_DE &&
      reads [0xD2, 0x34, 0x12] (.JP_NC_a16 0x1234) && reads [0xD3] (.UNDEFINED 0xD3) &&
      reads [0xD4, 0x34, 0x12] (.CALL_NC_a16 0x1234) && reads [0xD5] .PUSH_DE &&
      reads [0xD6, 0xA5] (.SUB_d8 0xA5) && reads [0xD7] .RST_0x10 &&
      reads [0xD8] .RET_C && reads [0xD9] .RETI &&
      reads [0xDA, 0x34, 0x12] (.JP_C_a16 0x1234) && reads [0xDB] (.UNDEFINED 0xDB) &&
      reads [0xDC, 0x34, 0x12] (.CALL_C_a16 0x1234) && reads [0xDD] (.UNDEFINED 0xDD) &&
      reads [0xDE, 0xA5] (.SBC_A_d8 0xA5) && reads [0xDF] .RST_0x18) = true := by decide

/-- The primary table, row E. -/
theorem test_decode_primary_Ex :
    (reads [0xE0, 0x80] (.LDH__a8__A 0x80) && reads [0xE1] .POP_HL &&
      reads [0xE2] .LD__C__A && reads [0xE3] (.UNDEFINED 0xE3) &&
      reads [0xE4] (.UNDEFINED 0xE4) && reads [0xE5] .PUSH_HL &&
      reads [0xE6, 0xA5] (.AND_d8 0xA5) && reads [0xE7] .RST_0x20 &&
      reads [0xE8, 0xFD] (.ADD_SP_r8 0xFD) && reads [0xE9] .JP__HL &&
      reads [0xEA, 0x34, 0x12] (.LD__a16__A 0x1234) && reads [0xEB] (.UNDEFINED 0xEB) &&
      reads [0xEC] (.UNDEFINED 0xEC) && reads [0xED] (.UNDEFINED 0xED) &&
      reads [0xEE, 0xA5] (.XOR_d8 0xA5) && reads [0xEF] .RST_0x28) = true := by decide

/-- The primary table, row F. -/
theorem test_decode_primary_Fx :
    (reads [0xF0, 0x80] (.LDH_A__a8 0x80) && reads [0xF1] .POP_AF &&
      reads [0xF2] .LD_A__C && reads [0xF3] .DI &&
      reads [0xF4] (.UNDEFINED 0xF4) && reads [0xF5] .PUSH_AF &&
      reads [0xF6, 0xA5] (.OR_d8 0xA5) && reads [0xF7] .RST_0x30 &&
      reads [0xF8, 0xFD] (.LD_HL_SP_r8 0xFD) && reads [0xF9] .LD_SP_HL &&
      reads [0xFA, 0x34, 0x12] (.LD_A__a16 0x1234) && reads [0xFB] .EI &&
      reads [0xFC] (.UNDEFINED 0xFC) && reads [0xFD] (.UNDEFINED 0xFD) &&
      reads [0xFE, 0xA5] (.CP_d8 0xA5) && reads [0xFF] .RST_0x38) = true := by decide

/-- The CB table, row 0. -/
theorem test_decode_cb_0x :
    (reads [0xCB, 0x00] .RLC_B && reads [0xCB, 0x01] .RLC_C &&
      reads [0xCB, 0x02] .RLC_D && reads [0xCB, 0x03] .RLC_E &&
      reads [0xCB, 0x04] .RLC_H && reads [0xCB, 0x05] .RLC_L &&
      reads [0xCB, 0x06] .RLC__HL && reads [0xCB, 0x07] .RLC_A &&
      reads [0xCB, 0x08] .RRC_B && reads [0xCB, 0x09] .RRC_C &&
      reads [0xCB, 0x0A] .RRC_D && reads [0xCB, 0x0B] .RRC_E &&
      reads [0xCB, 0x0C] .RRC_H && reads [0xCB, 0x0D] .RRC_L &&
      reads [0xCB, 0x0E] .RRC__HL && reads [0xCB, 0x0F] .RRC_A) = true := by decide

/-- The CB table, row 1. -/
theorem test_decode_cb_1x :
    (reads [0xCB, 0x10] .RL_B && reads [0xCB, 0x11] .RL_C &&
      reads [0xCB, 0x12] .RL_D && reads [0xCB, 0x13] .RL_E &&
      reads [0xCB, 0x14] .RL_H && reads [0xCB, 0x15] .RL_L &&
      reads [0xCB, 0x16] .RL__HL && reads [0xCB, 0x17] .RL_A &&
      reads [0xCB, 0x18] .RR_B && reads [0xCB, 0x19] .RR_C &&
      reads [0xCB, 0x1A] .RR_D && reads [0xCB, 0x1B] .RR_E &&
      reads [0xCB, 0x1C] .RR_H && reads [0xCB, 0x1D] .RR_L &&
      reads [0xCB, 0x1E] .RR__HL && reads [0xCB, 0x1F] .RR_A) = true := by decide

/-- The CB table, row 2. -/
theorem test_decode_cb_2x :
    (reads [0xCB, 0x20] .SLA_B && reads [0xCB, 0x21] .SLA_C &&
      reads [0xCB, 0x22] .SLA_D && reads [0xCB, 0x23] .SLA_E &&
      reads [0xCB, 0x24] .SLA_H && reads [0xCB, 0x25] .SLA_L &&
      reads [0xCB, 0x26] .SLA__HL && reads [0xCB, 0x27] .SLA_A &&
      reads [0xCB, 0x28] .SRA_B && reads [0xCB, 0x29] .SRA_C &&
      reads [0xCB, 0x2A] .SRA_D && reads [0xCB, 0x2B] .SRA_E &&
      reads [0xCB, 0x2C] .SRA_H && reads [0xCB, 0x2D] .SRA_L &&
      reads [0xCB, 0x2E] .SRA__HL && reads [0xCB, 0x2F] .SRA_A) = true := by decide

/-- The CB table, row 3. -/
theorem test_decode_cb_3x :
    (reads [0xCB, 0x30] .SWAP_B && reads [0xCB, 0x31] .SWAP_C &&
      reads [0xCB, 0x32] .SWAP_D && reads [0xCB, 0x33] .SWAP_E &&
      reads [0xCB, 0x34] .SWAP_H && reads [0xCB, 0x35] .SWAP_L &&
      reads [0xCB, 0x36] .SWAP__HL && reads [0xCB, 0x37] .SWAP_A &&
      reads [0xCB, 0x38] .SRL_B && reads [0xCB, 0x39] .SRL_C &&
      reads [0xCB, 0x3A] .SRL_D && reads [0xCB, 0x3B] .SRL_E &&
      reads [0xCB, 0x3C] .SRL_H && reads [0xCB, 0x3D] .SRL_L &&
      reads [0xCB, 0x3E] .SRL__HL && reads [0xCB, 0x3F] .SRL_A) = true := by decide

/-- The CB table, row 4. -/
theorem test_decode_cb_4x :
    (reads [0xCB, 0x40] .BIT_0_B && reads [0xCB, 0x41] .BIT_0_C &&
      reads [0xCB, 0x42] .BIT_0_D && reads [0xCB, 0x43] .BIT_0_E &&
      reads [0xCB, 0x44] .BIT_0_H && reads [0xCB, 0x45] .BIT_0_L &&
      reads [0xCB, 0x46] .BIT_0__HL && reads [0xCB, 0x47] .BIT_0_A &&
      reads [0xCB, 0x48] .BIT_1_B && reads [0xCB, 0x49] .BIT_1_C &&
      reads [0xCB, 0x4A] .BIT_1_D && reads [0xCB, 0x4B] .BIT_1_E &&
      reads [0xCB, 0x4C] .BIT_1_H && reads [0xCB, 0x4D] .BIT_1_L &&
      reads [0xCB, 0x4E] .BIT_1__HL && reads [0xCB, 0x4F] .BIT_1_A) = true := by decide

/-- The CB table, row 5. -/
theorem test_decode_cb_5x :
    (reads [0xCB, 0x50] .BIT_2_B && reads [0xCB, 0x51] .BIT_2_C &&
      reads [0xCB, 0x52] .BIT_2_D && reads [0xCB, 0x53] .BIT_2_E &&
      reads [0xCB, 0x54] .BIT_2_H && reads [0xCB, 0x55] .BIT_2_L &&
      reads [0xCB, 0x56] .BIT_2__HL && reads [0xCB, 0x57] .BIT_2_A &&
      reads [0xCB, 0x58] .BIT_3_B && reads [0xCB, 0x59] .BIT_3_C &&
      reads [0xCB, 0x5A] .BIT_3_D && reads [0xCB, 0x5B] .BIT_3_E &&
      reads [0xCB, 0x5C] .BIT_3_H && reads [0xCB, 0x5D] .BIT_3_L &&
      reads [0xCB, 0x5E] .BIT_3__HL && reads [0xCB, 0x5F] .BIT_3_A) = true := by decide

/-- The CB table, row 6. -/
theorem test_decode_cb_6x :
    (reads [0xCB, 0x60] .BIT_4_B && reads [0xCB, 0x61] .BIT_4_C &&
      reads [0xCB, 0x62] .BIT_4_D && reads [0xCB, 0x63] .BIT_4_E &&
      reads [0xCB, 0x64] .BIT_4_H && reads [0xCB, 0x65] .BIT_4_L &&
      reads [0xCB, 0x66] .BIT_4__HL && reads [0xCB, 0x67] .BIT_4_A &&
      reads [0xCB, 0x68] .BIT_5_B && reads [0xCB, 0x69] .BIT_5_C &&
      reads [0xCB, 0x6A] .BIT_5_D && reads [0xCB, 0x6B] .BIT_5_E &&
      reads [0xCB, 0x6C] .BIT_5_H && reads [0xCB, 0x6D] .BIT_5_L &&
      reads [0xCB, 0x6E] .BIT_5__HL && reads [0xCB, 0x6F] .BIT_5_A) = true := by decide

/-- The CB table, row 7. -/
theorem test_decode_cb_7x :
    (reads [0xCB, 0x70] .BIT_6_B && reads [0xCB, 0x71] .BIT_6_C &&
      reads [0xCB, 0x72] .BIT_6_D && reads [0xCB, 0x73] .BIT_6_E &&
      reads [0xCB, 0x74] .BIT_6_H && reads [0xCB, 0x75] .BIT_6_L &&
      reads [0xCB, 0x76] .BIT_6__HL && reads [0xCB, 0x77] .BIT_6_A &&
      reads [0xCB, 0x78] .BIT_7_B && reads [0xCB, 0x79] .BIT_7_C &&
      reads [0xCB, 0x7A] .BIT_7_D && reads [0xCB, 0x7B] .BIT_7_E &&
      reads [0xCB, 0x7C] .BIT_7_H && reads [0xCB, 0x7D] .BIT_7_L &&
      reads [0xCB, 0x7E] .BIT_7__HL && reads [0xCB, 0x7F] .BIT_7_A) = true := by decide

/-- The CB table, row 8. -/
theorem test_decode_cb_8x :
    (reads [0xCB, 0x80] .RES_0_B && reads [0xCB, 0x81] .RES_0_C &&
      reads [0xCB, 0x82] .RES_0_D && reads [0xCB, 0x83] .RES_0_E &&
      reads [0xCB, 0x84] .RES_0_H && reads [0xCB, 0x85] .RES_0_L &&
      reads [0xCB, 0x86] .RES_0__HL && reads [0xCB, 0x87] .RES_0_A &&
      reads [0xCB, 0x88] .RES_1_B && reads [0xCB, 0x89] .RES_1_C &&
      reads [0xCB, 0x8A] .RES_1_D && reads [0xCB, 0x8B] .RES_1_E &&
      reads [0xCB, 0x8C] .RES_1_H && reads [0xCB, 0x8D] .RES_1_L &&
      reads [0xCB, 0x8E] .RES_1__HL && reads [0xCB, 0x8F] .RES_1_A) = true := by decide

/-- The CB table, row 9. -/
theorem test_decode_cb_9x :
    (reads [0xCB, 0x90] .RES_2_B && reads [0xCB, 0x91] .RES_2_C &&
      reads [0xCB, 0x92] .RES_2_D && reads [0xCB, 0x93] .RES_2_E &&
      reads [0xCB, 0x94] .RES_2_H && reads [0xCB, 0x95] .RES_2_L &&
      reads [0xCB, 0x96] .RES_2__HL && reads [0xCB, 0x97] .RES_2_A &&
      reads [0xCB, 0x98] .RES_3_B && reads [0xCB, 0x99] .RES_3_C &&
      reads [0xCB, 0x9A] .RES_3_D && reads [0xCB, 0x9B] .RES_3_E &&
      reads [0xCB, 0x9C] .RES_3_H && reads [0xCB, 0x9D] .RES_3_L &&
      reads [0xCB, 0x9E] .RES_3__HL && reads [0xCB, 0x9F] .RES_3_A) = true := by decide

/-- The CB table, row A. -/
theorem test_decode_cb_Ax :
    (reads [0xCB, 0xA0] .RES_4_B && reads [0xCB, 0xA1] .RES_4_C &&
      reads [0xCB, 0xA2] .RES_4_D && reads [0xCB, 0xA3] .RES_4_E &&
      reads [0xCB, 0xA4] .RES_4_H && reads [0xCB, 0xA5] .RES_4_L &&
      reads [0xCB, 0xA6] .RES_4__HL && reads [0xCB, 0xA7] .RES_4_A &&
      reads [0xCB, 0xA8] .RES_5_B && reads [0xCB, 0xA9] .RES_5_C &&
      reads [0xCB, 0xAA] .RES_5_D && reads [0xCB, 0xAB] .RES_5_E &&
      reads [0xCB, 0xAC] .RES_5_H && reads [0xCB, 0xAD] .RES_5_L &&
      reads [0xCB, 0xAE] .RES_5__HL && reads [0xCB, 0xAF] .RES_5_A) = true := by decide

/-- The CB table, row B. -/
theorem test_decode_cb_Bx :
    (reads [0xCB, 0xB0] .RES_6_B && reads [0xCB, 0xB1] .RES_6_C &&
      reads [0xCB, 0xB2] .RES_6_D && reads [0xCB, 0xB3] .RES_6_E &&
      reads [0xCB, 0xB4] .RES_6_H && reads [0xCB, 0xB5] .RES_6_L &&
      reads [0xCB, 0xB6] .RES_6__HL && reads [0xCB, 0xB7] .RES_6_A &&
      reads [0xCB, 0xB8] .RES_7_B && reads [0xCB, 0xB9] .RES_7_C &&
      reads [0xCB, 0xBA] .RES_7_D && reads [0xCB, 0xBB] .RES_7_E &&
      reads [0xCB, 0xBC] .RES_7_H && reads [0xCB, 0xBD] .RES_7_L &&
      reads [0xCB, 0xBE] .RES_7__HL && reads [0xCB, 0xBF] .RES_7_A) = true := by decide

/-- The CB table, row C. -/
theorem test_decode_cb_Cx :
    (reads [0xCB, 0xC0] .SET_0_B && reads [0xCB, 0xC1] .SET_0_C &&
      reads [0xCB, 0xC2] .SET_0_D && reads [0xCB, 0xC3] .SET_0_E &&
      reads [0xCB, 0xC4] .SET_0_H && reads [0xCB, 0xC5] .SET_0_L &&
      reads [0xCB, 0xC6] .SET_0__HL && reads [0xCB, 0xC7] .SET_0_A &&
      reads [0xCB, 0xC8] .SET_1_B && reads [0xCB, 0xC9] .SET_1_C &&
      reads [0xCB, 0xCA] .SET_1_D && reads [0xCB, 0xCB] .SET_1_E &&
      reads [0xCB, 0xCC] .SET_1_H && reads [0xCB, 0xCD] .SET_1_L &&
      reads [0xCB, 0xCE] .SET_1__HL && reads [0xCB, 0xCF] .SET_1_A) = true := by decide

/-- The CB table, row D. -/
theorem test_decode_cb_Dx :
    (reads [0xCB, 0xD0] .SET_2_B && reads [0xCB, 0xD1] .SET_2_C &&
      reads [0xCB, 0xD2] .SET_2_D && reads [0xCB, 0xD3] .SET_2_E &&
      reads [0xCB, 0xD4] .SET_2_H && reads [0xCB, 0xD5] .SET_2_L &&
      reads [0xCB, 0xD6] .SET_2__HL && reads [0xCB, 0xD7] .SET_2_A &&
      reads [0xCB, 0xD8] .SET_3_B && reads [0xCB, 0xD9] .SET_3_C &&
      reads [0xCB, 0xDA] .SET_3_D && reads [0xCB, 0xDB] .SET_3_E &&
      reads [0xCB, 0xDC] .SET_3_H && reads [0xCB, 0xDD] .SET_3_L &&
      reads [0xCB, 0xDE] .SET_3__HL && reads [0xCB, 0xDF] .SET_3_A) = true := by decide

/-- The CB table, row E. -/
theorem test_decode_cb_Ex :
    (reads [0xCB, 0xE0] .SET_4_B && reads [0xCB, 0xE1] .SET_4_C &&
      reads [0xCB, 0xE2] .SET_4_D && reads [0xCB, 0xE3] .SET_4_E &&
      reads [0xCB, 0xE4] .SET_4_H && reads [0xCB, 0xE5] .SET_4_L &&
      reads [0xCB, 0xE6] .SET_4__HL && reads [0xCB, 0xE7] .SET_4_A &&
      reads [0xCB, 0xE8] .SET_5_B && reads [0xCB, 0xE9] .SET_5_C &&
      reads [0xCB, 0xEA] .SET_5_D && reads [0xCB, 0xEB] .SET_5_E &&
      reads [0xCB, 0xEC] .SET_5_H && reads [0xCB, 0xED] .SET_5_L &&
      reads [0xCB, 0xEE] .SET_5__HL && reads [0xCB, 0xEF] .SET_5_A) = true := by decide

/-- The CB table, row F. -/
theorem test_decode_cb_Fx :
    (reads [0xCB, 0xF0] .SET_6_B && reads [0xCB, 0xF1] .SET_6_C &&
      reads [0xCB, 0xF2] .SET_6_D && reads [0xCB, 0xF3] .SET_6_E &&
      reads [0xCB, 0xF4] .SET_6_H && reads [0xCB, 0xF5] .SET_6_L &&
      reads [0xCB, 0xF6] .SET_6__HL && reads [0xCB, 0xF7] .SET_6_A &&
      reads [0xCB, 0xF8] .SET_7_B && reads [0xCB, 0xF9] .SET_7_C &&
      reads [0xCB, 0xFA] .SET_7_D && reads [0xCB, 0xFB] .SET_7_E &&
      reads [0xCB, 0xFC] .SET_7_H && reads [0xCB, 0xFD] .SET_7_L &&
      reads [0xCB, 0xFE] .SET_7__HL && reads [0xCB, 0xFF] .SET_7_A) = true := by decide

/-! ## Decoding, bit by bit (R111, R112) -/

/-- `01yyyzzz`, y = B, z = C. -/
theorem test_word_LD_B_C : reads [0b01000001] .LD_B_C = true := by decide
/-- `00yyy110`, y = A. -/
theorem test_word_LD_A_d8 : reads [0b00111110, 0xFF] (.LD_A_d8 0xFF) = true := by decide
/-- `00pp0001`, p = SP; the operand's low byte first (R106). -/
theorem test_word_LD_SP_d16 : reads [0b00110001, 0xFE, 0xFF] (.LD_SP_d16 0xFFFE) = true := by decide
/-- `11pp0101`, p = AF. -/
theorem test_word_PUSH_AF : reads [0b11110101] .PUSH_AF = true := by decide
/-- `10yyyzzz`, y = SBC, z = (HL). -/
theorem test_word_SBC_A_HL : reads [0b10011110] .SBC_A__HL = true := by decide
/-- `00pp1001`, p = DE. -/
theorem test_word_ADD_HL_DE : reads [0b00011001] .ADD_HL_DE = true := by decide
/-- CB, `00yyyzzz`, y = SRL, z = D. -/
theorem test_word_SRL_D : reads [0b11001011, 0b00111010] .SRL_D = true := by decide
/-- CB, `11yyyzzz`, y = 3, z = E. -/
theorem test_word_SET_3_E : reads [0b11001011, 0b11011011] .SET_3_E = true := by decide
/-- `110cc010`, cc = NC. -/
theorem test_word_JP_NC : reads [0b11010010, 0x34, 0x12] (.JP_NC_a16 0x1234) = true := by decide
/-- `11yyy111`, y = 5. -/
theorem test_word_RST_28 : reads [0b11101111] .RST_0x28 = true := by decide
/-- STOP and the byte it ignores (R116). -/
theorem test_word_STOP : reads [0b00010000, 0b01010101] (.STOP 0x55) = true := by decide

/-! ## The table's numbering (assumption 4) -/

theorem test_table_word_plain : decodeTableWord 8 0x41 = some .LD_B_C := by decide
theorem test_table_word_operand_zero : decodeTableWord 8 0xC3 = some (.JP_a16 0x0000) := by decide
theorem test_table_word_operand_order : decodeTableWord 24 0x1234C3 = some (.JP_a16 0x1234) := by decide
theorem test_table_word_cb : decodeTableWord 16 0xCB7E = some .BIT_7__HL := by decide

/-- The word stored where reset fetches runs at the very next step (R45: pc = 0, in the boot ROM overlay). -/
theorem test_fetch_word_runs :
    (match step (State.reset.withFetchWord 24 0x1234C3) with | .next t => decide (t.regs.pc = 0x1234) | _ => false) = true := by
  decide

/-! ## One step from a small state (spec/95_test_vectors.md: FlatBus, DMG, every register 0 but SP and pc) -/

def regs0 : Regs := { a := 0, f := 0, b := 0, c := 0, d := 0, e := 0, h := 0, l := 0, sp := 0xDFF0, pc := 0xC000 }

def start (r : Regs) (cells : List (Word × Byte)) : State :=
  cells.foldl (fun s c => s.busWrite c.1 c.2)
    { State.powerOn { Config.default with bus := .flat } with regs := r }

/-- The OAM window of R155 open. -/
def openWindow (s : State) : State := { s with ppu := { lcdEnabled := true, mode := .oamSearch, lineTick := 0 } }

/-- A step ends with these registers, these bytes and these events. -/
def ranTo (s : State) (r : Regs) (cells : List (Word × Byte)) (ev : List Event) : Bool :=
  match step s with
  | .next t => decide (t.regs = r) && cells.all (fun c => (t.busRead c.1).1 == c.2) && decide (t.events = ev)
  | _ => false

/-- A step ends in a state with the property. -/
def then' (s : State) (p : State → Bool) : Bool :=
  match step s with
  | .next t => p t
  | _ => false

/-- V1: LD B,C. -/
theorem test_V1 : ranTo (start { regs0 with b := 0x12, c := 0x34 } [(0xC000, 0x41)])
    { regs0 with b := 0x34, c := 0x34, pc := 0xC001 } [] [] = true := by decide

/-- V4: LD A,0xFF. -/
theorem test_V4 : ranTo (start regs0 [(0xC000, 0x3E), (0xC001, 0xFF)])
    { regs0 with a := 0xFF, pc := 0xC002 } [] [] = true := by decide

/-- V6: LD A,(HL). -/
theorem test_V6 : ranTo (start { regs0 with h := 0xC1 } [(0xC000, 0x7E), (0xC100, 0x5A)])
    { regs0 with a := 0x5A, h := 0xC1, pc := 0xC001 } [] [] = true := by decide

/-- V9: LD (HL),H. -/
theorem test_V9 : ranTo (start { regs0 with h := 0xC1, l := 0x23 } [(0xC000, 0x74)])
    { regs0 with h := 0xC1, l := 0x23, pc := 0xC001 } [(0xC123, 0xC1)] [] = true := by decide

/-- V11: LD (HL),0xAB. -/
theorem test_V11 : ranTo (start { regs0 with h := 0xC2 } [(0xC000, 0x36), (0xC001, 0xAB)])
    { regs0 with h := 0xC2, pc := 0xC002 } [(0xC200, 0xAB)] [] = true := by decide

/-- V12: LD A,(BC). -/
theorem test_V12 : ranTo (start { regs0 with b := 0xC0, c := 0x10 } [(0xC000, 0x0A), (0xC010, 0x77)])
    { regs0 with a := 0x77, b := 0xC0, c := 0x10, pc := 0xC001 } [] [] = true := by decide

/-- V13: LD A,(DE). -/
theorem test_V13 : ranTo (start { regs0 with d := 0xC0, e := 0x11 } [(0xC000, 0x1A), (0xC011, 0x01)])
    { regs0 with a := 0x01, d := 0xC0, e := 0x11, pc := 0xC001 } [] [] = true := by decide

/-- V14: LD (BC),A. -/
theorem test_V14 : ranTo (start { regs0 with a := 0x9C, b := 0xC0, c := 0x20 } [(0xC000, 0x02)])
    { regs0 with a := 0x9C, b := 0xC0, c := 0x20, pc := 0xC001 } [(0xC020, 0x9C)] [] = true := by decide

/-- V15: LD (DE),A. -/
theorem test_V15 : ranTo (start { regs0 with d := 0xC0, e := 0x21 } [(0xC000, 0x12)])
    { regs0 with d := 0xC0, e := 0x21, pc := 0xC001 } [(0xC021, 0x00)] [] = true := by decide

/-- V16: LD A,(0xC234). -/
theorem test_V16 : ranTo (start regs0 [(0xC000, 0xFA), (0xC001, 0x34), (0xC002, 0xC2), (0xC234, 0x42)])
    { regs0 with a := 0x42, pc := 0xC003 } [] [] = true := by decide

/-- V17: LD (0xD000),A. -/
theorem test_V17 : ranTo (start { regs0 with a := 0x55 } [(0xC000, 0xEA), (0xC001, 0x00), (0xC002, 0xD0)])
    { regs0 with a := 0x55, pc := 0xC003 } [(0xD000, 0x55)] [] = true := by decide

/-- V18: LDH A,(0x80). -/
theorem test_V18 : ranTo (start regs0 [(0xC000, 0xF0), (0xC001, 0x80), (0xFF80, 0x3C)])
    { regs0 with a := 0x3C, pc := 0xC002 } [] [] = true := by decide

/-- V21: LDH (0xFF),A. -/
theorem test_V21 : ranTo (start { regs0 with a := 0x05 } [(0xC000, 0xE0), (0xC001, 0xFF)])
    { regs0 with a := 0x05, pc := 0xC002 } [(0xFFFF, 0x05)] [] = true := by decide

/-- V23: LD A,(C). -/
theorem test_V23 : ranTo (start { regs0 with c := 0x81 } [(0xC000, 0xF2), (0xFF81, 0x10)])
    { regs0 with a := 0x10, c := 0x81, pc := 0xC001 } [] [] = true := by decide

/-- V24: LD (C),A. -/
theorem test_V24 : ranTo (start { regs0 with a := 0xEE, c := 0x82 } [(0xC000, 0xE2)])
    { regs0 with a := 0xEE, c := 0x82, pc := 0xC001 } [(0xFF82, 0xEE)] [] = true := by decide

/-- V25: LD (HL+),A. -/
theorem test_V25 : ranTo (start { regs0 with a := 0x01, h := 0xC0, l := 0xFF } [(0xC000, 0x22)])
    { regs0 with a := 0x01, h := 0xC1, pc := 0xC001 } [(0xC0FF, 0x01)] [] = true := by decide

/-- V26: LD (HL+),A. -/
theorem test_V26 : ranTo (start { regs0 with a := 0x04, h := 0xFF, l := 0xFF } [(0xC000, 0x22)])
    { regs0 with a := 0x04, pc := 0xC001 } [(0xFFFF, 0x04)] [] = true := by decide

/-- V27: LD (HL-),A. -/
theorem test_V27 : ranTo (start { regs0 with a := 0x02, h := 0xC1 } [(0xC000, 0x32)])
    { regs0 with a := 0x02, h := 0xC0, l := 0xFF, pc := 0xC001 } [(0xC100, 0x02)] [] = true := by decide

/-- V28: LD (HL-),A. -/
theorem test_V28 : ranTo (start { regs0 with a := 0x02 } [(0xC000, 0x32)])
    { regs0 with a := 0x02, h := 0xFF, l := 0xFF, pc := 0xC001 } [(0x0000, 0x02)] [] = true := by decide

/-- V29: LD A,(HL+). -/
theorem test_V29 : ranTo (start { regs0 with h := 0xC1 } [(0xC000, 0x2A), (0xC100, 0x99)])
    { regs0 with a := 0x99, h := 0xC1, l := 0x01, pc := 0xC001 } [] [] = true := by decide

/-- V30: LD A,(HL-). -/
theorem test_V30 : ranTo (start { regs0 with h := 0xC1, l := 0x01 } [(0xC000, 0x3A), (0xC101, 0x98)])
    { regs0 with a := 0x98, h := 0xC1, pc := 0xC001 } [] [] = true := by decide

/-- V40: LD HL,0x1234. -/
theorem test_V40 : ranTo (start regs0 [(0xC000, 0x21), (0xC001, 0x34), (0xC002, 0x12)])
    { regs0 with h := 0x12, l := 0x34, pc := 0xC003 } [] [] = true := by decide

/-- V43: LD (0xC100),SP. -/
theorem test_V43 : ranTo (start { regs0 with sp := 0xFFF8 } [(0xC000, 0x08), (0xC001, 0x00), (0xC002, 0xC1)])
    { regs0 with sp := 0xFFF8, pc := 0xC003 } [(0xC100, 0xF8), (0xC101, 0xFF)] [] = true := by decide

/-- V44: LD (0xFFFF),SP. -/
theorem test_V44 : ranTo (start { regs0 with sp := 0x1234 } [(0xC000, 0x08), (0xC001, 0xFF), (0xC002, 0xFF)])
    { regs0 with sp := 0x1234, pc := 0xC003 } [(0xFFFF, 0x34), (0x0000, 0x12)] [] = true := by decide

/-- V45: LD SP,HL. -/
theorem test_V45 : ranTo (start { regs0 with h := 0xD0 } [(0xC000, 0xF9)])
    { regs0 with h := 0xD0, sp := 0xD000, pc := 0xC001 } [] [] = true := by decide

/-- V46: LD HL,SP+0x02. -/
theorem test_V46 : ranTo (start { regs0 with f := 0xF0, sp := 0xFFF8 } [(0xC000, 0xF8), (0xC001, 0x02)])
    { regs0 with h := 0xFF, l := 0xFA, sp := 0xFFF8, pc := 0xC002 } [] [] = true := by decide

/-- V48: LD HL,SP-1. -/
theorem test_V48 : ranTo (start { regs0 with sp := 0x0000 } [(0xC000, 0xF8), (0xC001, 0xFF)])
    { regs0 with h := 0xFF, l := 0xFF, sp := 0x0000, pc := 0xC002 } [] [] = true := by decide

/-- V51: PUSH BC. -/
theorem test_V51 : ranTo (start { regs0 with b := 0x12, c := 0x34, sp := 0xFFFE } [(0xC000, 0xC5)])
    { regs0 with b := 0x12, c := 0x34, sp := 0xFFFC, pc := 0xC001 } [(0xFFFD, 0x12), (0xFFFC, 0x34)] [] = true := by decide

/-- V53: PUSH HL. -/
theorem test_V53 : ranTo (start { regs0 with h := 0xBE, l := 0xEF, sp := 0x0001 } [(0xC000, 0xE5)])
    { regs0 with h := 0xBE, l := 0xEF, sp := 0xFFFF, pc := 0xC001 } [(0x0000, 0xBE), (0xFFFF, 0xEF)] [] = true := by decide

/-- V54: POP DE. -/
theorem test_V54 : ranTo (start { regs0 with sp := 0xFFFC } [(0xC000, 0xD1), (0xFFFC, 0x34), (0xFFFD, 0x12)])
    { regs0 with d := 0x12, e := 0x34, sp := 0xFFFE, pc := 0xC001 } [] [] = true := by decide

/-- V56: POP AF. -/
theorem test_V56 : ranTo (start { regs0 with f := 0xF0, sp := 0xD000 } [(0xC000, 0xF1), (0xD000, 0x0F), (0xD001, 0x00)])
    { regs0 with sp := 0xD002, pc := 0xC001 } [] [] = true := by decide

/-- V70: ADD A,B. -/
theorem test_V70 : ranTo (start { regs0 with a := 0x3A, b := 0xC6 } [(0xC000, 0x80)])
    { regs0 with f := 0xB0, b := 0xC6, pc := 0xC001 } [] [] = true := by decide

/-- V76: ADC A,0x0F. -/
theorem test_V76 : ranTo (start { regs0 with a := 0xE1, f := 0x10 } [(0xC000, 0xCE), (0xC001, 0x0F)])
    { regs0 with a := 0xF1, f := 0x20, pc := 0xC002 } [] [] = true := by decide

/-- V82: SUB 0x3E. -/
theorem test_V82 : ranTo (start { regs0 with a := 0x3E } [(0xC000, 0xD6), (0xC001, 0x3E)])
    { regs0 with f := 0xC0, pc := 0xC002 } [] [] = true := by decide

/-- V88: SBC A,0x2A. -/
theorem test_V88 : ranTo (start { regs0 with a := 0x3B, f := 0x10 } [(0xC000, 0xDE), (0xC001, 0x2A)])
    { regs0 with a := 0x10, f := 0x40, pc := 0xC002 } [] [] = true := by decide

/-- V94: AND 0x3F. -/
theorem test_V94 : ranTo (start { regs0 with a := 0x5A } [(0xC000, 0xE6), (0xC001, 0x3F)])
    { regs0 with a := 0x1A, f := 0x20, pc := 0xC002 } [] [] = true := by decide

/-- V97: XOR 0x0F. -/
theorem test_V97 : ranTo (start { regs0 with a := 0xFF, f := 0xF0 } [(0xC000, 0xEE), (0xC001, 0x0F)])
    { regs0 with a := 0xF0, pc := 0xC002 } [] [] = true := by decide

/-- V99: OR 0x03. -/
theorem test_V99 : ranTo (start { regs0 with a := 0x5A, f := 0xF0 } [(0xC000, 0xF6), (0xC001, 0x03)])
    { regs0 with a := 0x5B, pc := 0xC002 } [] [] = true := by decide

/-- V102: CP 0x40. -/
theorem test_V102 : ranTo (start { regs0 with a := 0x3C } [(0xC000, 0xFE), (0xC001, 0x40)])
    { regs0 with a := 0x3C, f := 0x50, pc := 0xC002 } [] [] = true := by decide

/-- V106: INC B. -/
theorem test_V106 : ranTo (start { regs0 with f := 0x10, b := 0xFF } [(0xC000, 0x04)])
    { regs0 with f := 0xB0, pc := 0xC001 } [] [] = true := by decide

/-- V109: INC (HL). -/
theorem test_V109 : ranTo (start { regs0 with h := 0xC1 } [(0xC000, 0x34), (0xC100, 0x0F)])
    { regs0 with f := 0x20, h := 0xC1, pc := 0xC001 } [(0xC100, 0x10)] [] = true := by decide

/-- V111: DEC B. -/
theorem test_V111 : ranTo (start { regs0 with b := 0x01 } [(0xC000, 0x05)])
    { regs0 with f := 0xC0, pc := 0xC001 } [] [] = true := by decide

/-- V114: DEC (HL). -/
theorem test_V114 : ranTo (start { regs0 with h := 0xC1 } [(0xC000, 0x35), (0xC100, 0x00)])
    { regs0 with f := 0x60, h := 0xC1, pc := 0xC001 } [(0xC100, 0xFF)] [] = true := by decide

/-- V116: DAA. -/
theorem test_V116 : ranTo (start { regs0 with a := 0x7D } [(0xC000, 0x27)])
    { regs0 with a := 0x83, pc := 0xC001 } [] [] = true := by decide

/-- V125: CPL. -/
theorem test_V125 : ranTo (start { regs0 with a := 0x35 } [(0xC000, 0x2F)])
    { regs0 with a := 0xCA, f := 0x60, pc := 0xC001 } [] [] = true := by decide

/-- V127: SCF. -/
theorem test_V127 : ranTo (start { regs0 with f := 0xE0 } [(0xC000, 0x37)])
    { regs0 with f := 0x90, pc := 0xC001 } [] [] = true := by decide

/-- V128: CCF. -/
theorem test_V128 : ranTo (start { regs0 with f := 0xF0 } [(0xC000, 0x3F)])
    { regs0 with f := 0x80, pc := 0xC001 } [] [] = true := by decide

/-- V140: ADD HL,BC. -/
theorem test_V140 : ranTo (start { regs0 with f := 0x80, b := 0x06, c := 0x05, h := 0x8A, l := 0x23 } [(0xC000, 0x09)])
    { regs0 with f := 0xA0, b := 0x06, c := 0x05, h := 0x90, l := 0x28, pc := 0xC001 } [] [] = true := by decide

/-- V146: INC DE. -/
theorem test_V146 : ranTo (start { regs0 with f := 0xF0, d := 0x23, e := 0x5F } [(0xC000, 0x13)])
    { regs0 with f := 0xF0, d := 0x23, e := 0x60, pc := 0xC001 } [] [] = true := by decide

/-- V149: DEC BC. -/
theorem test_V149 : ranTo (start { regs0 with b := 0x01 } [(0xC000, 0x0B)])
    { regs0 with c := 0xFF, pc := 0xC001 } [] [] = true := by decide

/-- V154: ADD SP,0x08. -/
theorem test_V154 : ranTo (start { regs0 with f := 0xC0, sp := 0xFFF8 } [(0xC000, 0xE8), (0xC001, 0x08)])
    { regs0 with f := 0x30, sp := 0x0000, pc := 0xC002 } [] [] = true := by decide

/-- V170: RLCA. -/
theorem test_V170 : ranTo (start { regs0 with a := 0x85, f := 0xE0 } [(0xC000, 0x07)])
    { regs0 with a := 0x0B, f := 0x10, pc := 0xC001 } [] [] = true := by decide

/-- V172: RRCA. -/
theorem test_V172 : ranTo (start { regs0 with a := 0x3B } [(0xC000, 0x0F)])
    { regs0 with a := 0x9D, f := 0x10, pc := 0xC001 } [] [] = true := by decide

/-- V174: RLA. -/
theorem test_V174 : ranTo (start { regs0 with a := 0x95, f := 0x10 } [(0xC000, 0x17)])
    { regs0 with a := 0x2B, f := 0x10, pc := 0xC001 } [] [] = true := by decide

/-- V176: RRA. -/
theorem test_V176 : ranTo (start { regs0 with a := 0x81 } [(0xC000, 0x1F)])
    { regs0 with a := 0x40, f := 0x10, pc := 0xC001 } [] [] = true := by decide

/-- V179: RLC B. -/
theorem test_V179 : ranTo (start { regs0 with b := 0x85 } [(0xC000, 0xCB), (0xC001, 0x00)])
    { regs0 with f := 0x10, b := 0x0B, pc := 0xC002 } [] [] = true := by decide

/-- V182: RRC C. -/
theorem test_V182 : ranTo (start { regs0 with c := 0x01 } [(0xC000, 0xCB), (0xC001, 0x09)])
    { regs0 with f := 0x10, c := 0x80, pc := 0xC002 } [] [] = true := by decide

/-- V183: RL L. -/
theorem test_V183 : ranTo (start { regs0 with l := 0x80 } [(0xC000, 0xCB), (0xC001, 0x15)])
    { regs0 with f := 0x90, pc := 0xC002 } [] [] = true := by decide

/-- V185: RR A. -/
theorem test_V185 : ranTo (start { regs0 with a := 0x01 } [(0xC000, 0xCB), (0xC001, 0x1F)])
    { regs0 with f := 0x90, pc := 0xC002 } [] [] = true := by decide

/-- V187: SLA D. -/
theorem test_V187 : ranTo (start { regs0 with d := 0xFF } [(0xC000, 0xCB), (0xC001, 0x22)])
    { regs0 with f := 0x10, d := 0xFE, pc := 0xC002 } [] [] = true := by decide

/-- V189: SRA A. -/
theorem test_V189 : ranTo (start { regs0 with a := 0x8A } [(0xC000, 0xCB), (0xC001, 0x2F)])
    { regs0 with a := 0xC5, pc := 0xC002 } [] [] = true := by decide

/-- V192: SWAP A. -/
theorem test_V192 : ranTo (start { regs0 with a := 0xF1, f := 0xF0 } [(0xC000, 0xCB), (0xC001, 0x37)])
    { regs0 with a := 0x1F, pc := 0xC002 } [] [] = true := by decide

/-- V194: SRL A. -/
theorem test_V194 : ranTo (start { regs0 with a := 0xFF } [(0xC000, 0xCB), (0xC001, 0x3F)])
    { regs0 with a := 0x7F, f := 0x10, pc := 0xC002 } [] [] = true := by decide

/-- V196: BIT 7,A. -/
theorem test_V196 : ranTo (start { regs0 with a := 0x80, f := 0x10 } [(0xC000, 0xCB), (0xC001, 0x7F)])
    { regs0 with a := 0x80, f := 0x30, pc := 0xC002 } [] [] = true := by decide

/-- V200: RES 0,A. -/
theorem test_V200 : ranTo (start { regs0 with a := 0xFF, f := 0xF0 } [(0xC000, 0xCB), (0xC001, 0x87)])
    { regs0 with a := 0xFE, f := 0xF0, pc := 0xC002 } [] [] = true := by decide

/-- V202: SET 7,(HL). -/
theorem test_V202 : ranTo (start { regs0 with h := 0xC1 } [(0xC000, 0xCB), (0xC001, 0xFE), (0xC100, 0x00)])
    { regs0 with h := 0xC1, pc := 0xC002 } [(0xC100, 0x80)] [] = true := by decide

/-- V210: JP 0x0150. -/
theorem test_V210 : ranTo (start regs0 [(0xC000, 0xC3), (0xC001, 0x50), (0xC002, 0x01)])
    { regs0 with pc := 0x0150 } [] [] = true := by decide

/-- V211: JP Z,0x0200. -/
theorem test_V211 : ranTo (start { regs0 with f := 0x80 } [(0xC000, 0xCA), (0xC001, 0x00), (0xC002, 0x02)])
    { regs0 with f := 0x80, pc := 0x0200 } [] [] = true := by decide

/-- V214: JP (HL). -/
theorem test_V214 : ranTo (start { regs0 with h := 0xC1, l := 0x23 } [(0xC000, 0xE9)])
    { regs0 with h := 0xC1, l := 0x23, pc := 0xC123 } [] [] = true := by decide

/-- V215: JR +5. -/
theorem test_V215 : ranTo (start { regs0 with pc := 0x0100 } [(0x0100, 0x18), (0x0101, 0x05)])
    { regs0 with pc := 0x0107 } [] [] = true := by decide

/-- V219: JR NZ,-3. -/
theorem test_V219 : ranTo (start regs0 [(0xC000, 0x20), (0xC001, 0xFD)])
    { regs0 with pc := 0xBFFF } [] [] = true := by decide

/-- V222: CALL 0x2000. -/
theorem test_V222 : ranTo (start { regs0 with sp := 0xFFFE, pc := 0x0150 } [(0x0150, 0xCD), (0x0151, 0x00), (0x0152, 0x20)])
    { regs0 with sp := 0xFFFC, pc := 0x2000 } [(0xFFFD, 0x01), (0xFFFC, 0x53)] [] = true := by decide

/-- V223: CALL C,0x2000. -/
theorem test_V223 : ranTo (start { regs0 with sp := 0xFFFE } [(0xC000, 0xDC), (0xC001, 0x00), (0xC002, 0x20)])
    { regs0 with sp := 0xFFFE, pc := 0xC003 } [] [] = true := by decide

/-- V225: RET. -/
theorem test_V225 : ranTo (start { regs0 with sp := 0xFFFC } [(0xC000, 0xC9), (0xFFFC, 0x53), (0xFFFD, 0x01)])
    { regs0 with sp := 0xFFFE, pc := 0x0153 } [] [] = true := by decide

/-- V226: RET NZ. -/
theorem test_V226 : ranTo (start { regs0 with sp := 0xFFFC } [(0xC000, 0xC0), (0xFFFC, 0x53), (0xFFFD, 0x01)])
    { regs0 with sp := 0xFFFE, pc := 0x0153 } [] [] = true := by decide

/-- V230: RST 0x08. -/
theorem test_V230 : ranTo (start { regs0 with sp := 0xD000, pc := 0x0234 } [(0x0234, 0xCF)])
    { regs0 with sp := 0xCFFE, pc := 0x0008 } [(0xCFFF, 0x02), (0xCFFE, 0x35)] [] = true := by decide

/-- V240: NOP. -/
theorem test_V240 : ranTo (start { regs0 with pc := 0x0100 } [(0x0100, 0x00)])
    { regs0 with pc := 0x0101 } [] [] = true := by decide

/-! ## Interrupts, waiting, speed (47_system.md, 60_exceptions.md) -/

/-- IME = 1, with these IE and IF. -/
def enabled (ie : Byte) (ifr : BitVec 5) : IntCtl :=
  { ime := true, ie := ie, ifr := ifr, pendingEnable := none, pendingDisable := none }

/-- V229: RETI sets IME at once. -/
theorem test_V229 : then' (start { regs0 with sp := 0xFFFC } [(0xC000, 0xD9), (0xFFFC, 0x53), (0xFFFD, 0x01)])
    (fun t => decide (t.regs.pc = 0x0153 ∧ t.regs.sp = 0xFFFE ∧ t.ic.ime = true)) = true := by decide

/-- V242: DI. -/
theorem test_V242 : then' { start regs0 [(0xC000, 0xF3)] with ic := enabled 0 0 } (fun t => decide (t.ic.ime = false)) = true := by decide

/-- V243: EI leaves IME 0 and the counter at 0. -/
theorem test_V243 : then' (start regs0 [(0xC000, 0xFB)])
    (fun t => decide (t.ic.ime = false ∧ t.ic.pendingEnable = some .zero)) = true := by decide

/-- V247: HALT with IME = 1 halts. -/
theorem test_V247 : then' { start regs0 [(0xC000, 0x76)] with ic := enabled 0x04 0 } (fun t => decide (t.phase = .halted ∧ t.regs.pc = 0xC001)) = true := by
  decide

/-- V248: HALT with IME = 0 and a request pending: the halt bug. -/
theorem test_V248 : then' (start regs0 [(0xC000, 0x76), (0xFFFF, 0x04), (0xFF0F, 0x04)])
    (fun t => decide (t.phase = .opcode ∧ t.haltBug = true)) = true := by decide

/-- R151: under the halt bug the opcode byte is fetched without advancing pc (INC A at C000). -/
theorem test_halt_bug_fetch : then' { start regs0 [(0xC000, 0x3C)] with haltBug := true }
    (fun t => decide (t.regs.a = 1 ∧ t.regs.pc = 0xC000 ∧ t.haltBug = false)) = true := by decide

/-- V249: STOP on DMG. -/
theorem test_V249 : then' (start regs0 [(0xC000, 0x10)])
    (fun t => decide (t.phase = .stopped ∧ t.regs.pc = 0xC002 ∧ t.events = [.lcdDisable])) = true := by decide

/-- V250: the CGB speed switch; the second byte is ignored. -/
theorem test_V250 :
    (let s := start regs0 [(0xC000, 0x10), (0xC001, 0x55)]
     then' { s with cfg := { s.cfg with gbc := true }, prepareSwitch := true }
      (fun t => decide (t.speed = .double ∧ t.prepareSwitch = false ∧ t.phase = .opcode))) = true := by decide

/-- R337: an undefined opcode faults, pc past it. -/
theorem test_undefined_faults :
    (match step (start regs0 [(0xC000, 0xDD)]) with
      | .fault e => decide (e = .undefinedOpcode 0xDD 0xC001)
      | _ => false) = true := by decide

/-- R361 to R367: VBlank is served before Timer; pc is pushed, IME cleared, only its IF bit cleared. -/
theorem test_dispatch : then' { start { regs0 with pc := 0x1234 } [] with ic := enabled 0x1F 0b00101 }
    (fun t => decide (t.regs.pc = 0x0040 ∧ t.regs.sp = 0xDFEE ∧ t.ic.ime = false ∧ t.ic.ifr = 0b00100 ∧
      t.mem.read 0xDFEF = 0x12 ∧ t.mem.read 0xDFEE = 0x34)) = true := by decide

/-- R75, R377: the bytes of page C1 go to OAM. -/
theorem test_dma_copy :
    (let s := { start { regs0 with pc := 0xFF80 } [(0xC105, 0x77)] with cfg := Config.default, bootMapped := false }
     decide ((s.dmaCopy 0xC100 6).mem.read 0xFE05 = 0x77)) = true := by decide

/-- R132, R336: leaving Stopped for an interrupt sends `LcdEnable`. -/
theorem test_stopped_wakes : then' { start regs0 [] with phase := .stopped, ic := enabled 0x10 0b10000 }
    (fun t => decide (t.regs.pc = 0x0060 ∧ t.events = [.lcdEnable])) = true := by decide

/-- R106: the values of the operand sources, for the operand bytes 0x80, 0xC1. -/
theorem test_operand_sources :
    (let o : Operands := { b0 := 0x80, b1 := 0xC1 }
     ([Src.d8, .d16, .r8, .a8, .a16].map fun src => (src.value o (start regs0 [])).1)) =
      [0x0080, 0xC180, 0xFF80, 0xFF80, 0xC180] ∧
    Src.operandLength .r8 = 1 ∧ Src.operandLength .a8 = 1 ∧ Src.operandLength .a16 = 2 ∧
    (Src.value { b0 := 0x44, b1 := 0 } (start regs0 []) .r8).1 = 0x0044 ∧
    (Src.value { b0 := 0x44, b1 := 0 } (start regs0 []) .a8).1 = 0xFF44 := by decide

/-- A window over OAM that closes after the second of the three M-cycles of POP BC at FF80, with SP in OAM. -/
def closing : State :=
  { start { regs0 with pc := 0xFF80, sp := 0xFE02 } [(0xFF80, 0xC1), (0xC102, 0x34), (0xC103, 0x12)] with
    cfg := Config.default, bootMapped := false, dma := some { page := 0xC1, ticksLeft := 8 } }

/-- R75, R413: POP reads 0xFF while the window is open and the byte copied once it has closed. -/
theorem test_dma_window_ends_inside_pop :
    then' closing (fun t => decide (t.bc = 0x12FF ∧ t.regs.sp = 0xFE04 ∧ t.dma = none)) = true := by
  decide +kernel

/-- S11: another agent clears IE between the two reads of a dispatch: nothing is selected, and nothing but IE changes. -/
theorem test_S11 :
    (match tick { TickInput.quiet with writeIE := some 0x00 } { start regs0 [] with
        ic := enabled 0x01 0b00001, irq := { irqIF := 0xE1, irqIE := 0, requested := none }
        phase := .irqReadIE, clockCycle := 3 } with
      | .next t => decide (t.phase = .opcode ∧ t.regs = regs0 ∧ t.ic = enabled 0x00 0b00001 ∧ t.irq.requested = none)
      | _ => false) = true := by decide

/-- R421: five sub-steps of the engine run LD (a16),SP whole. -/
theorem test_engine_ld_a16_sp :
    (match substeps 5 (start { regs0 with sp := 0xFFF8 } [(0xC000, 0x08), (0xC002, 0xC1)]) with
      | .next t => decide (t.mem.read 0xC100 = 0xF8 ∧ t.mem.read 0xC101 = 0xFF ∧ t.phase = .opcode)
      | _ => false) = true := by decide

/-! ## Witnesses: states and operands that meet the hypotheses of the statements -/

/-- A FlatBus state with bytes in memory, HL and SP pointing at cells, Z and C set. -/
def busy : State :=
  start { regs0 with a := 0x45, f := 0x90, b := 0xC6, c := 0x80, h := 0xC1, l := 0x00, sp := 0xD000 }
    [(0xC000, 0x3E), (0xC001, 0x05), (0xC100, 0x5A)]

/-- The same on the Game Boy's map, the boot ROM unmapped. -/
def console : State := { busy with cfg := Config.default, bootMapped := false }

/-- An OAM DMA in progress. -/
def copying : State := { console with dma := some { page := 0xC1, ticksLeft := 648 } }

/-- Timer and Serial pending, enabled and accepted. -/
def pending : State := { busy with ic := enabled 0x0C 0b01100 }

theorem witness_StoreAtHL : busy.mem.wf = true ∧ busy.storeCell busy.hl = some 0xC100 := by decide

theorem witness_StoreAccumulator : busy.mem.wf = true ∧ busy.storeCell busy.bc = some 0xC680 ∧
    busy.storeCell 0xFFFF = none ∧ busy.storeCell 0x0000 = some 0x0000 := by decide

theorem witness_AccumulatorAndStepHL : busy.mem.wf = true ∧ busy.storeCell busy.hl = some 0xC100 ∧
    busy.storeCell busy.hl ≠ some 0xC101 ∧ OamKept busy busy.hl 0xC101 := by
  exact ⟨by decide, by decide, by decide, .inl (by decide)⟩

theorem witness_StoreStackPointer : busy.mem.wf = true ∧
    (busy.busWrite 0xFFFF (loByte busy.regs.sp)).storeCell (0xFFFF + 1) = some 0 ∧ busy.storeCell 0xFFFF = none := by decide

theorem witness_PushPair : busy.mem.wf = true ∧
    busy.storeCell (busy.regs.sp - 1) = some 0xCFFF ∧
    (pushWrites busy busy.bc).1.storeCell (busy.regs.sp - 2) = some 0xCFFE ∧
    OamKept busy busy.regs.sp 0xC100 ∧ OamKept busy (busy.regs.sp - 1) 0xC100 := by
  exact ⟨by decide, by decide, by decide, .inl (by decide), .inl (by decide)⟩

theorem witness_PopPair : busy.mem.wf = true ∧ OamKept busy busy.regs.sp 0xC100 ∧
    OamKept busy (busy.regs.sp + 1) 0xC100 := by
  exact ⟨by decide, .inl (by decide), .inl (by decide)⟩

theorem witness_PopAfterPush : busy.mem.wf = true ∧ busy.oamWindow = false ∧
    busy.storeCell (busy.regs.sp - 1) = some 0xCFFF ∧ busy.storeCell (busy.regs.sp - 2) = some 0xCFFE ∧
    (0xCFFF : Nat) ≠ 0xCFFE := by decide

theorem witness_IncrementDecrement : busy.mem.wf = true ∧ (busy.busRead busy.hl).1 = 0x5A := by decide

theorem witness_DecimalAdjustGivesBcd : AluOp.sbc ∈ [AluOp.add, .adc, .sub, .sbc] ∧
    (busy.regs.a.toNat % 16 ≤ 9 ∧ busy.regs.a.toNat / 16 ≤ 9) ∧
    ((0x99 : Byte).toNat % 16 ≤ 9 ∧ (0x99 : Byte).toNat / 16 ≤ 9) := by decide

theorem witness_StepPair : busy.mem.wf = true ∧ OamKept busy (busy.r16 .HL) 0xC100 := by
  exact ⟨by decide, .inl (by decide)⟩

theorem witness_RotateOperand : busy.mem.wf = true ∧ (busy.busRead busy.hl).1 ≠ 0 := by decide

theorem witness_ChangeBit : busy.mem.wf = true ∧ busy.storeCell busy.hl ≠ none := by decide

theorem witness_CallAndRestart : busy.mem.wf = true ∧ busy.cond .Z = true ∧ busy.cond .C = true ∧
    busy.cond .NZ = false ∧ busy.cond .NC = false := by decide

theorem witness_Return : busy.mem.wf = true ∧ busy.cond .C = true ∧ busy.cond .NC = false := by decide

/-- HALT with and without the halt bug; STOP with and without the armed switch. -/
theorem witness_NoOperationHaltStop :
    (let s := { pending with ic := { pending.ic with ime := false } }
     s.ic.ime = false ∧ s.ic.ifByte &&& s.ic.ie &&& 0x1F ≠ 0) ∧
    ¬(busy.ic.ime = false ∧ busy.ic.ifByte &&& busy.ic.ie &&& 0x1F ≠ 0) ∧
    (let s := { busy with cfg := { busy.cfg with gbc := true }, prepareSwitch := true }
     s.cfg.gbc = true ∧ s.prepareSwitch = true) ∧
    ¬(busy.cfg.gbc = true ∧ busy.prepareSwitch = true) := by decide

theorem witness_EnableTakesEffectAfterNext :
    busy.ic.pendingEnable = none ∧ busy.ic.pendingDisable = none ∧ Instr.NOP ∉ [Instr.HALT, .PREFIX_CB] ∧
      (∀ p, Instr.NOP ≠ .STOP p) ∧ (∃ t, exec .EI busy = .next t ∧ ∃ u, exec .NOP t = .next u) ∧
      Instr.NOP ≠ .DI ∧ Instr.DI ∉ [Instr.HALT, .PREFIX_CB] ∧ (∀ p, Instr.DI ≠ .STOP p) ∧
      (∃ t, exec .EI busy = .next t ∧ ∃ u, exec .DI t = .next u) ∧ busy.cfg.gbc = false :=
  ⟨by decide, by decide, by decide, fun _ => by simp, ⟨_, rfl, _, rfl⟩, by decide, by decide, fun _ => by simp,
    ⟨_, rfl, _, rfl⟩, rfl⟩

theorem witness_PrefixByte : (busy.busRead busy.regs.pc).1 = 0x3E ∧ ∃ t, exec .PREFIX_CB busy = .next t :=
  ⟨by decide, _, rfl⟩

theorem witness_UndefinedOpcodeFaults :
    (0xD3 : Byte) ∈ ([0xD3, 0xDB, 0xDD, 0xE3, 0xE4, 0xEB, 0xEC, 0xED, 0xF4, 0xFC, 0xFD] : List Byte) ∧
    (0xFD : Byte) ∈ ([0xD3, 0xDB, 0xDD, 0xE3, 0xE4, 0xEB, 0xEC, 0xED, 0xF4, 0xFC, 0xFD] : List Byte) := by decide

theorem witness_OnlyUndefinedOpcodesStop : (∀ op, Instr.NOP ≠ .UNDEFINED op) ∧ busy.phase.idle = true :=
  ⟨fun _ => by simp, by decide⟩

/-- NOP, RES and JR fall under the flag rule. -/
theorem witness_OtherInstructionsKeepFlags :
    (∃ t, exec (decodeBytes 0x00 0 0) busy = .next t) ∧
    (fieldX 0x00 = 0 ∧ fieldZ 0x00 ∉ [4, 5, 7] ∧ ¬(fieldZ 0x00 = 1 ∧ fieldQ 0x00 = 1)) ∧
    (∃ t, exec (decodeBytes 0xCB 0x80 0) busy = .next t) ∧ fieldX 0x80 ≥ 2 ∧
    (∃ t, exec (decodeBytes 0xC3 0 0) busy = .next t) ∧
    (fieldX 0xC3 = 3 ∧ fieldZ 0xC3 ≠ 6 ∧ (0xC3 : Byte) ∉ ([0xE8, 0xF8, 0xF1] : List Byte)) :=
  ⟨⟨_, rfl⟩, by decide, ⟨_, rfl⟩, by decide, ⟨_, rfl⟩, by decide⟩

theorem witness_OnlySystemInstructionsChangeMode : (∃ t, exec .NOP busy = .next t) ∧
    Instr.NOP ∉ [Instr.HALT, .PREFIX_CB] ∧ (∀ p, Instr.NOP ≠ .STOP p) ∧ Instr.NOP ≠ .HALT ∧
    Instr.NOP ∉ [Instr.RETI, .DI] ∧ busy.ic.pendingEnable ≠ some .zero ∧ busy.ic.pendingDisable ≠ some .zero :=
  ⟨⟨_, rfl⟩, by decide, fun _ => by simp, by decide, by decide, by decide, by decide⟩

/-- A one-byte and a two-byte operand. -/
theorem witness_StepRunsDecodedInstruction : (busy.phase = .opcode ∧ busy.ic.accepts = false ∧ busy.dma = none ∧
    1 ≤ bytesAfter 0x3E ∧ 2 ≤ bytesAfter 0xC3) ∧
    ∀ t, exec (decodeBytes busy.fetch.b0 busy.fetch.b1 busy.fetch.b2) busy.fetch.st = .next t → t.dma = none := by
  refine ⟨by decide, fun t h => ?_⟩
  cases h
  rfl

theorem witness_LowestOrdinalServed : selectIrq 0xFF 0x1F = some .vblank ∧ selectIrq 0xF0 0xFF = some .joypad ∧
    (0xE0 : Byte) &&& 0xFF &&& 0x1F = 0 ∧
    (let s := { pending with irq := { irqIF := 0xEC, irqIE := 0, requested := none } }
     selectIrq s.irq.irqIF s.ic.ie = some .timer) ∧ Irq.joypad ≠ Irq.timer ∧
    ({ pending.ic with ime := false } : IntCtl).ime = false := by decide

theorem witness_InterruptDispatch : pending.phase.idle = true ∧ pending.ic.accepts = true ∧
    (acceptInterrupt pending).oamWindow = false ∧ pending.mem.wf = true ∧
    pending.storeCell (pending.regs.sp - 1) = some 0xCFFF ∧
    pending.storeCell (pending.regs.sp - 2) = some 0xCFFE ∧ (0xCFFF : Nat) ≠ 0xCFFE ∧ pending.dma = none ∧
    ({ pending with phase := .stopped } : State).phase.idle = true ∧
    ({ copying with ic := pending.ic } : State).ic.accepts = true := by decide

theorem witness_DispatchSelects :
    (let s := { pending with irq := { irqIF := 0xEC, irqIE := 0, requested := none } }
     selectIrq s.irq.irqIF s.ic.ie = some .timer) ∧
    (let s := { pending with irq := { irqIF := 0xE3, irqIE := 0, requested := none } }
     s.irq.irqIF &&& s.ic.ie &&& 0x1F = 0) ∧
    (let s := { pending with irq := { irqIF := 0xEC, irqIE := 0, requested := none }, phase := .irqReadIE, clockCycle := 3 }
     s.phase = .irqReadIE ∧ s.speed.ticksPerCycle ≤ s.clockCycle + 1 ∧ TickInput.quiet.hdma = none ∧
       selectIrq s.irq.irqIF (TickInput.quiet.writeIE.getD s.ic.ie) = some .timer ∧
       s.irq.irqIF &&& (some (0x00 : Byte)).getD s.ic.ie &&& 0x1F = 0) := by decide

theorem witness_DispatchPushesAndJumps :
    (let s : State := { pending with
       irq := { irqIF := 0, irqIE := 0, requested := some .timer }, ic := { pending.ic with ime := false } }
     s.irq.requested = some .timer ∧ s.ic.ime = false ∧ (∃ u, fetchState (irqJump s) = .next u)) ∧
    (let s : State := { pending with
       irq := { irqIF := 0, irqIE := 0, requested := some .timer }, ic := { pending.ic with ime := false }
       bootMapped := false, mem := [(0x50, 0xDD)] }
     s.irq.requested = some .timer ∧ s.ic.ime = false ∧ fetchState (irqJump s) = .fault (.undefinedOpcode 0xDD 0x51)) := by
  exact ⟨⟨rfl, rfl, _, rfl⟩, rfl, rfl, rfl⟩

theorem witness_WaitingAndWaking :
    (let s := { busy with phase := .halted }
     s.ic.accepts = false ∧ s.phase = .halted ∧ s.ic.requested = false ∧ s.dma = none) ∧
    (let s := { pending with phase := .halted, ic := { pending.ic with ime := false } }
     s.ic.accepts = false ∧ s.phase = .halted ∧ s.ic.requested = true) ∧
    (let s := { busy with phase := .stopped }
     s.ic.accepts = false ∧ s.phase = .stopped) := by decide

theorem witness_EnableDelayCounters :
    (let c := { enabled 0 0 with pendingEnable := some .one }
     c.pendingEnable = some .one ∧ c.pendingDisable = none) ∧
    ({ enabled 0 0 with pendingEnable := some .zero } : IntCtl).pendingEnable = some .zero ∧
    (let c := { enabled 0 0 with pendingDisable := some .one }
     c.pendingEnable = none ∧ c.pendingDisable = some .one) ∧
    (let c := { enabled 0 0 with pendingDisable := some .zero }
     c.pendingEnable = none ∧ c.pendingDisable = some .zero) ∧
    (enabled 0 0).pendingEnable = none ∧ (enabled 0 0).pendingDisable = none := by decide

/-- A CGB with bank 1 of video RAM and bank 5 of work RAM selected. -/
def banked : State := { console with cfg := { console.cfg with gbc := true }, banks := { vram := 1, wram := 5 } }

/-- The ends of each range of the map, and the states each clause asks for. -/
theorem witness_GameBoyMap : console.cfg.bus = .gameBoy ∧ copying.cfg.bus = .gameBoy ∧ banked.cfg.bus = .gameBoy ∧
    (0x0000 : Word).toNat < 0x8000 ∧ (0x7FFF : Word).toNat < 0x8000 ∧
    (0x8000 ≤ (0x8000 : Word).toNat ∧ (0x9FFF : Word).toNat < 0xA000) ∧
    (0xA000 ≤ (0xA000 : Word).toNat ∧ (0xBFFF : Word).toNat < 0xC000) ∧
    (0xC000 ≤ (0xC000 : Word).toNat ∧ (0xDFFF : Word).toNat < 0xE000) ∧
    (0xE000 ≤ (0xE000 : Word).toNat ∧ (0xFDFF : Word).toNat < 0xFE00) ∧
    (0xFE00 ≤ (0xFE00 : Word).toNat ∧ (0xFE9F : Word).toNat < 0xFEA0) ∧
    (0xFEA0 ≤ (0xFEA0 : Word).toNat ∧ (0xFEFF : Word).toNat < 0xFF00) ∧
    (0xFF80 ≤ (0xFF80 : Word).toNat ∧ (0xFFFE : Word).toNat < 0xFFFF) ∧
    copying.dma.isSome = true ∧ console.dma.isSome = false ∧ State.reset.bootMapped = true ∧ console.bootMapped = false ∧
    banked.cfg.gbc = true ∧ console.cfg.gbc = false := by decide

/-- The cells at the ends of the ranges, by the map of R72: two banks, the boot overlays, OAM open. -/
theorem test_map_cells :
    console.storeCell 0x9FFF = some 0x9FFF ∧ banked.storeCell 0x9FFF = some 0x11FFF ∧
    banked.storeCell 0xCFFF = some 0xCFFF ∧ banked.storeCell 0xD000 = some 0x15000 ∧ console.storeCell 0xDFFF = some 0xDFFF ∧
    banked.storeCell 0xF000 = some 0x15000 ∧ console.storeCell 0xFE9F = some 0xFE9F ∧ copying.storeCell 0xFE9F = none ∧
    console.storeCell 0xFFFE = some 0xFFFE ∧
    (let s := { banked with bootMapped := true, bootRom := [(0x8FF, 0x11)], mem := [(0x8FF, 0x22), (0x900, 0x33)] }
     (s.busRead 0x8FF).1 = 0x11 ∧ (s.busRead 0x900).1 = 0x33 ∧ ({ s with bootMapped := false }.busRead 0x8FF).1 = 0x22) := by
  decide

/-- R72: a byte stored in one bank of work RAM is not read in another, and is read again when its bank is selected. -/
theorem test_work_ram_banks :
    (let s := (banked.busWrite 0xD123 0x55).busWrite 0xFF70 0x02
     (s.busRead 0xD123).1 = 0x00 ∧ ((s.busWrite 0xFF70 0x05).busRead 0xD123).1 = 0x55) := by decide

theorem witness_CoreLocalRegisters :
    ({ busy with cfg := { busy.cfg with gbc := true } } : State).cfg.gbc = true ∧
    console.cfg.gbc = false ∧ console.cfg.bus = .gameBoy := by decide

theorem witness_ReadAfterWrite : console.mem.wf = true ∧ console.storeCell 0xE100 = some 0xC100 ∧
    console.storeCell 0xDFFF = some 0xDFFF ∧ busy.cfg.bus = .flat ∧ busy.cfg.gbc = false ∧
    (0xFF0E : Word) ≠ 0xFF0F ∧ (0xFFFE : Word) ≠ 0xFFFF := by decide

/-- The corners of the trigger: both ends of the page, the last tick inside and the first outside. -/
theorem witness_OamCheckTrigger :
    (let fires := fun (s : State) (v : Word) => 0xFE00 ≤ v.toNat ∧ v.toNat ≤ 0xFEFF ∧ s.cfg.oamBugEnabled = true ∧
       s.ppu.lcdEnabled = true ∧ s.ppu.mode = .oamSearch ∧ s.ppu.lineTick < 80
     let last := { busy with ppu := { lcdEnabled := true, mode := .oamSearch, lineTick := 79 } }
     let late := { busy with ppu := { lcdEnabled := true, mode := .oamSearch, lineTick := 80 } }
     fires last 0xFE00 ∧ fires last 0xFEFF ∧ ¬fires last 0xFDFF ∧ ¬fires last 0xFF00 ∧ ¬fires late 0xFE00 ∧
       last.mem.wf = true) := by decide

theorem witness_OamDmaWindow : console.cfg.bus = .gameBoy ∧
    copying.dma = some { page := 0xC1, ticksLeft := 648 } ∧ copying.mem.wf = true ∧
    647 < ({ page := 0xC1, ticksLeft := 648 } : DmaTransfer).ticksLeft ∧
    ({ page := 0xC1, ticksLeft := 648 } : DmaTransfer).ticksLeft ≤ 648 ∧ 159 < 160 := by decide

theorem witness_DecodeOfEncode : Instr.wf (.UNDEFINED 0xED) = true ∧ Instr.wf .BIT_7__HL = true ∧
    Instr.wf .PREFIX_CB = true := by decide

theorem witness_EncodeOfDecode : reads [0x3E, 0x05] (.LD_A_d8 0x05) = true ∧
    decode [0x3E, 0x05, 0xFF] = .ok (.LD_A_d8 0x05, [0xFF]) := ⟨by decide, rfl⟩

/-- Both start states, on both models. -/
theorem witness_StartStates :
    (let dmg := Config.default
     let cgb := { Config.default with gbc := true, launch := .postBoot }
     dmg.launch = .powerOn ∧ dmg.gbc = false ∧ cgb.launch = .postBoot ∧ cgb.gbc = true) := by decide

theorem witness_busy_data : busy.DataInv :=
  { memCanonical := by decide
    memInSpace := by decide
    bootCanonical := by decide
    flagsLow := by decide
    divider := by decide
    speedDmg := by decide
    banksDmg := by decide
    oneCounter := by decide
    dmaWindow := fun d h => by cases h }

def isNext : Result → Bool
  | .next _ => true
  | _ => false

theorem next_of {r : Result} (h : isNext r = true) : ∃ t, r = .next t := by
  cases r with
  | next t => exact ⟨t, rfl⟩
  | _ => simp [isNext] at h

theorem witness_StepKeepsInvariant : busy.Inv ∧ ∃ t, step busy = .next t :=
  ⟨⟨witness_busy_data, by decide, by decide⟩, next_of (by decide)⟩

theorem witness_reset_data : State.reset.DataInv :=
  { memCanonical := by decide
    memInSpace := by decide
    bootCanonical := by decide
    flagsLow := by decide
    divider := by decide
    speedDmg := by decide
    banksDmg := by decide
    oneCounter := by decide
    dmaWindow := fun d h => by cases h }

/-- A tick with every source active, the CPU's tick not taken by HDMA. -/
def allActive : TickInput :=
  { writeIF := some 0x00, writeIE := some 0x1F, joypad := true, timer := true, hdma := none, serial := true, lcdc := true
    vblank := true, ppu := some { lcdEnabled := true, mode := .vBlank, lineTick := 0 } }

theorem witness_TickKeepsDataInvariant : State.reset.DataInv ∧ ∃ t, tick allActive State.reset = .next t :=
  ⟨witness_reset_data, _, rfl⟩

theorem witness_MicroOpsGiveTheMeaning :
    ∀ b ∈ ([0x00, 0xCB, 0xFF] : List Byte),
      undefinedOpcodes.contains b = false ∧ b ∉ ([0x10, 0x76] : List Byte) := by decide

/-- With no DMA (an instruction, a dispatch, an idle step) and with one. -/
theorem witness_StepIsTicks : busy.clockCycle = 0 ∧ busy.phase.idle = true ∧ busy.dma = none ∧
    pending.clockCycle = 0 ∧ pending.phase.idle = true ∧ pending.dma = none ∧ pending.ic.accepts = true ∧
    (let s := { busy with phase := .stopped }
     s.clockCycle = 0 ∧ s.phase.idle = true ∧ s.ic.accepts = false) ∧
    copying.clockCycle = 0 ∧ copying.phase.idle = true ∧ copying.dma ≠ none := by decide

/-- A DMA that goes on beside an instruction that writes another device (`LDH (0x01),A`), and `LDH (0x46),A`, which starts
one. -/
theorem witness_StepDuringDma :
    (copying.phase = .opcode ∧ copying.ic.accepts = false ∧
      (∀ d, copying.dma = some d →
        copying.fetch.st.cycles copying.fetch.b0 copying.fetch.b1 * copying.speed.ticksPerCycle < d.ticksLeft)) ∧
    (let s := { copying with mem := [(0xC000, 0xE0), (0xC001, 0x01)] }
     ∃ t, exec (decodeBytes s.fetch.b0 s.fetch.b1 s.fetch.b2) s.fetch.st = .next t ∧
       t.events.drop s.events.length = [.deviceWrite 0xFF01 0x45]) ∧
    (let s := { console with mem := [(0xC000, 0xE0), (0xC001, 0x46)] }
     s.phase = .opcode ∧ s.ic.accepts = false ∧ (∀ d, s.dma = some d → False) ∧
       ∃ t, exec (decodeBytes s.fetch.b0 s.fetch.b1 s.fetch.b2) s.fetch.st = .next t ∧
         t.dma = some { page := 0x45, ticksLeft := 648 } ∧
         Event.deviceWrite 0xFF46 0x45 ∈ t.events.drop s.events.length) := by
  refine ⟨⟨by decide, by decide, fun d h => ?_⟩, ⟨_, rfl, by decide⟩, ⟨by decide, by decide, fun d h => ?_, _, rfl, by decide, by decide⟩⟩
  · cases h
    decide
  · cases h

theorem witness_TickDivider :
    ({ busy with clockCycle := 2 } : State).clockCycle + 1 < 4 / busy.speed.multiplier ∧
    4 / busy.speed.multiplier ≤ ({ busy with clockCycle := 3 } : State).clockCycle + 1 := by decide

end Sys2Proof.Tests
end

section
/-! O56: every tick keeps the data part of the invariant. The micro-ops of R141 are `Ordinary`, but for the switch of the
interrupt controller; a sub-step starts with the divider at 0, which is what lets STOP change the speed. -/

namespace Sys2Proof.Machine

/-! ### Micro-ops are ordinary -/

theorem Src.value_ordinary (o : Operands) (s : State) (src : Src) : Ordinary s (src.value o s).2 := by
  cases src with
  | mem m => exact .busRead s _
  | _ => exact .refl s

theorem Dst.store_ordinary (o : Operands) (ctx : Word) (s : State) (dst : Dst) : Ordinary s (dst.store o ctx s) := by
  cases dst with
  | reg r => exact .setR8 s r _
  | pair r => exact .setR16 s r ctx
  | stackPair r => exact .setPair s r ctx
  | pc => exact .setPc s ctx
  | mem m => exact .busWrite s _ _
  | a16Lo => exact .busWrite s _ _
  | a16Hi => exact .busWrite s _ _

theorem Fn1.run_ordinary (ctx : Word) (s : State) (f : Fn1) : Ordinary s (f.run ctx s).2 := by
  cases f with
  | inc16 => exact .refl s
  | dec16 => exact .refl s
  | _ => exact .setF s _

theorem Fn2.run_ordinary (ctx v : Word) (s : State) (f : Fn2) : Ordinary s (f.run ctx v s).2 := by
  cases f with
  | addPc => exact .refl s
  | _ => exact .setF s _

theorem Fn3.run_ordinary (n : Fin 8) (ctx : Word) (s : State) (f : Fn3) : Ordinary s (f.run n ctx s).2 := by
  cases f with
  | bit => exact .setF s _
  | res => exact .refl s
  | set => exact .refl s

theorem State.pushStore_ordinary (s : State) (v : Byte) : Ordinary s (s.pushStore v) :=
  (Ordinary.setSp s _).trans (.busWrite _ _ _)

theorem State.popLoad_ordinary (s : State) : Ordinary s s.popLoad.2 := (Ordinary.busRead s _).trans (.setSp _ _)

theorem MicroOp.check_ordinary (op : MicroOp) (ctx : Word) (s : State) : Ordinary s (op.check ctx s) := by
  unfold MicroOp.check
  split
  · exact .oamCheck s _ _
  · exact .refl s

/-- R141: only `SwitchInterrupts` reaches IME and the delay counters. -/
theorem MicroOp.execute_ordinary (o : Operands) (ctx : Word) (s : State) {op : MicroOp}
    (hop : ∀ enable delayed, op ≠ .switchInterrupts enable delayed) : Ordinary s (op.execute o ctx s).2 := by
  cases op with
  | load src => exact src.value_ordinary o s
  | store dst => exact dst.store_ordinary o ctx s
  | alu1 f => exact f.run_ordinary ctx s
  | alu2 f src => exact f.run_ordinary ctx _ s
  | alu3 f n => exact f.run_ordinary n ctx s
  | pushHi => exact s.pushStore_ordinary _
  | pushLo => exact s.pushStore_ordinary _
  | popLo => exact s.popLoad_ordinary
  | popHi => exact s.popLoad_ordinary
  | proceedIf cc => exact .refl s
  | extraCycle => exact .refl s
  | forceFinish => exact .refl s
  | switchInterrupts enable delayed => exact absurd rfl (hop enable delayed)
  | bitHL n => exact (Ordinary.busRead s _).trans (.setF _ _)
  | incHL => exact .setR16 s .HL _
  | decHL => exact .setR16 s .HL _
  | clearZ => exact .setF s _

/-! ### The interrupt controller's switch (R144, R354, R355) -/

/-- At most one of the delay counters is armed after the switch: the delayed forms disarm the other one. -/
theorem State.switchInterrupts_oneCounter (s : State) (enable delayed : Bool) :
    (s.switchInterrupts enable delayed).ic.pendingEnable = none ∨
      (s.switchInterrupts enable delayed).ic.pendingDisable = none := by
  cases enable with
  | true =>
    cases delayed with
    | true => exact .inr rfl
    | false => exact .inr rfl
  | false =>
    cases delayed with
    | true =>
      simp only [State.switchInterrupts, IntCtl.disableDelayed]
      split <;> exact .inl rfl
    | false => exact .inl rfl

theorem State.DataInv.switchInterrupts {s : State} (h : s.DataInv) (enable delayed : Bool) :
    (s.switchInterrupts enable delayed).DataInv :=
  h.withIc (s.switchInterrupts_oneCounter enable delayed)

/-! ### What holds inside a sub-step -/

theorem Speed.ticksPerCycle_pos (sp : Speed) : 0 < sp.ticksPerCycle := by cases sp <;> decide

/-- The data part of the invariant with the divider at 0, where R130 puts it for a sub-step. The data part alone is not
enough inside one: from single speed with the divider at 2, the speed switch of STOP would leave the divider out of range. -/
structure State.SubstepInv (s : State) : Prop where
  data : s.DataInv
  aligned : s.clockCycle = 0

theorem Ordinary.substepInv {s t : State} (o : Ordinary s t) (h : s.SubstepInv) : t.SubstepInv :=
  ⟨o.data h.data, o.clockCycle.trans h.aligned⟩

namespace State.SubstepInv

variable {s t : State}

/-- Where the machine stands in an instruction or a dispatch, and what it latched, is not data. -/
theorem control (h : s.SubstepInv) (p : Phase) (l : Latches) (q : IrqLatches) :
    ({ s with phase := p, latch := l, irq := q } : State).SubstepInv :=
  ⟨{ h.data with }, h.aligned⟩

theorem fetch8 (h : s.SubstepInv) : s.fetch8.2.SubstepInv := ⟨h.data.fetch8, by simp [h.aligned]⟩

theorem fetchOpcode (h : s.SubstepInv) : s.fetchOpcode.2.SubstepInv := ⟨h.data.fetchOpcode, by simp [h.aligned]⟩

theorem instructionFinished (h : s.SubstepInv) : s.instructionFinished.SubstepInv :=
  ⟨h.data.instructionFinished, h.aligned⟩

theorem fetchState (h : s.SubstepInv) (ht : Machine.fetchState s = .next t) : t.SubstepInv := by
  unfold Machine.fetchState at ht
  dsimp only at ht
  split at ht
  · cases ht
  · split at ht
    · cases ht
      exact h.fetchOpcode.control _ _ _
    · split at ht <;> cases ht <;> exact h.fetchOpcode.control _ _ _

theorem fetchSecond (h : s.SubstepInv) : (Machine.fetchSecond s).SubstepInv := h.fetch8.control _ _ _

theorem fetchOperand (h : s.SubstepInv) : (Machine.fetchOperand s).SubstepInv := h.fetch8.control _ _ _

theorem finish (h : s.SubstepInv) : (Machine.finish s).SubstepInv := (h.control _ _ _).instructionFinished

theorem execute (h : s.SubstepInv) (o : Operands) (ctx : Word) (op : MicroOp) :
    (op.execute o ctx s).2.SubstepInv := by
  cases op with
  | switchInterrupts enable delayed => exact ⟨h.data.switchInterrupts enable delayed, h.aligned⟩
  | _ => exact (MicroOp.execute_ordinary o ctx s (by simp)).substepInv h

theorem runMicroOp (h : s.SubstepInv) (op : MicroOp) : (Machine.runMicroOp op s).SubstepInv :=
  (((op.check_ordinary _ s).substepInv h).execute _ _ op).control _ _ _

/-- R334: the speed switch asks for a CGB, and meets the divider at 0. -/
theorem execSTOP (h : s.SubstepInv) {pad : Byte} (ht : Machine.execSTOP pad s = .next t) : t.SubstepInv := by
  unfold Machine.execSTOP at ht
  split at ht
  · rename_i hswitch
    obtain ⟨hgbc, -⟩ : s.cfg.gbc = true ∧ s.prepareSwitch = true := by simpa using hswitch
    cases ht
    refine ⟨{ h.data with divider := ?_, speedDmg := fun hdmg => ?_ }, h.aligned⟩
    · exact h.aligned.trans_lt (Speed.ticksPerCycle_pos _)
    · exact absurd (hgbc.symm.trans hdmg) (by decide)
  · cases ht
    exact ⟨{ h.data with }, h.aligned⟩

theorem execHALT (h : s.SubstepInv) (ht : Machine.execHALT s = .next t) : t.SubstepInv := by
  unfold Machine.execHALT at ht
  split at ht <;> cases ht <;> exact ⟨{ h.data with }, h.aligned⟩

/-- R131 step 5, by induction on the passes through the loop and by the state the pass meets (R135 to R139). -/
theorem engineLoop {fuel : Nat} {accessed : Bool} (h : s.SubstepInv)
    (ht : Machine.engineLoop fuel accessed s = .next t) : t.SubstepInv := by
  induction fuel generalizing accessed s with
  | zero =>
    cases ht
    exact h
  | succ fuel ih =>
    unfold Machine.engineLoop at ht
    cases hp : s.phase with simp only [hp] at ht
    | opcode =>
      split at ht
      · rename_i s1 hs1
        exact ih (h.fetchState hs1) ht
      · cases ht
      · cases ht
    | extOpcode =>
      split at ht
      · cases ht
        exact h
      · exact ih h.fetchSecond ht
    | operand =>
      split at ht
      · split at ht
        · cases ht
          exact h
        · exact ih h.fetchOperand ht
      · exact ih (h.control _ _ _) ht
    | running =>
      split at ht
      · exact h.execSTOP ht
      · split at ht
        · exact h.execHALT ht
        · split at ht
          · cases ht
            exact h.finish
          · split at ht
            · cases ht
              exact h
            · split at ht
              · cases ht
                exact (h.control _ _ _).finish
              · split at ht
                · cases ht
                  exact h.runMicroOp _
                · exact ih (h.runMicroOp _) ht
    | _ =>
      cases ht
      exact h

/-! ### The dispatch and the sub-step (R131, R361 to R365) -/

theorem acceptInterrupt (h : s.SubstepInv) : (Machine.acceptInterrupt s).SubstepInv := by
  unfold Machine.acceptInterrupt
  split
  · exact ⟨{ h.data with }, h.aligned⟩
  · exact h.control _ _ _

theorem irqReadIF (h : s.SubstepInv) : (Machine.irqReadIF s).SubstepInv :=
  ((Ordinary.busRead s _).substepInv h).control _ _ _

/-- R362: the dispatch disables interrupts at once, which disarms both counters. -/
theorem irqReadIE (h : s.SubstepInv) : (Machine.irqReadIE s).SubstepInv := by
  have hread := (Ordinary.busRead s 0xFFFF).substepInv h
  unfold Machine.irqReadIE
  dsimp only
  split
  · exact hread.control _ _ _
  · exact ⟨{ hread.data with oneCounter := .inl rfl }, hread.aligned⟩

theorem irqPush1 (h : s.SubstepInv) : (Machine.irqPush1 s).SubstepInv :=
  ((Ordinary.pushByte s _ _).substepInv h).control _ _ _

theorem irqPush2 (h : s.SubstepInv) : (Machine.irqPush2 s).SubstepInv :=
  ((Ordinary.pushByte s _ _).substepInv h).control _ _ _

theorem irqJump (h : s.SubstepInv) : (Machine.irqJump s).SubstepInv := by
  unfold Machine.irqJump
  split
  · exact h.control _ _ _
  · exact ((Ordinary.setPc s _).substepInv h).control _ _ _

theorem irqSubstep (h : s.SubstepInv) (ht : Machine.irqSubstep s = some t) : t.SubstepInv := by
  unfold Machine.irqSubstep at ht
  split at ht <;> cases ht
  · exact h.irqReadIF
  · exact h.irqReadIE
  · exact h.irqPush1
  · exact h.irqPush2
  · exact h.irqJump

/-- R131. -/
theorem substep (h : s.SubstepInv) (ht : Machine.substep s = .next t) : t.SubstepInv := by
  have hs1 : (if s.phase.idle && s.ic.accepts then Machine.acceptInterrupt s else s).SubstepInv := by
    split
    · exact h.acceptInterrupt
    · exact h
  unfold Machine.substep at ht
  dsimp only at ht
  generalize (if s.phase.idle && s.ic.accepts then Machine.acceptInterrupt s else s) = s1 at hs1 ht
  split at ht
  · rename_i s2 hs2
    cases ht
    exact hs1.irqSubstep hs2
  · split at ht
    · split at ht
      · exact (hs1.control _ _ _).engineLoop ht
      · cases ht
        exact hs1
    · cases ht
      exact hs1
    · exact hs1.engineLoop ht

end State.SubstepInv

/-! ### One tick (R5, R78, R83, R130) -/

namespace State.DataInv

variable {s t : State}

/-- R130: short of the M-cycle's last tick the divider counts on; at it the sub-step starts from divider 0. -/
theorem cpuTick (h : s.DataInv) (ht : Machine.cpuTick s = .next t) : t.DataInv := by
  unfold Machine.cpuTick at ht
  split at ht
  · have hstart : ({ s with clockCycle := 0 } : State).SubstepInv :=
      ⟨{ h with divider := s.speed.ticksPerCycle_pos }, rfl⟩
    exact (hstart.substep ht).data
  · rename_i hcount
    cases ht
    exact { h with divider := Nat.lt_of_not_le hcount }

theorem agentWrite (h : s.DataInv) (a : Word) (v : Option Byte) : (s.agentWrite a v).DataInv := by
  cases v with
  | none => exact h
  | some v => exact h.busWrite a v

theorem requestIf (h : s.DataInv) (b : Bool) (i : Irq) : (s.requestIf b i).DataInv := by
  cases b with
  | false => exact h
  | true => exact h.withIc h.oneCounter

/-- Bytes written one after another, each to a cell of the address space. -/
theorem writeCells (h : s.DataInv) {cellOf : Nat → Nat} (hcell : ∀ n, cellOf n < 0x18000) (cells : List Host.Cell) :
    ({ s with mem := cells.foldl (fun m c => m.write (cellOf c.1) c.2) s.mem } : State).DataInv := by
  induction cells generalizing s with
  | nil => exact h
  | cons c rest ih =>
    exact ih (h.withMem (Memory.write_wf (cellOf c.1) c.2 h.memCanonical)
      (Memory.write_inSpace h.memInSpace (hcell c.1)))

/-- R72: HDMA writes inside the bank of video RAM selected. -/
theorem hdmaCopy (h : s.DataInv) (cells : List Host.Cell) : (s.hdmaCopy cells).DataInv :=
  h.writeCells (cellOf := fun n => s.vramCell (0x8000 + n % 0x2000)) (fun n => s.vramCell_lt (by omega)) cells

end State.DataInv

/-- Settles O56: each agent's turn in the tick keeps the data part of the invariant, in the order of R78. -/
theorem tickKeepsDataInvariant : Obligations.TickKeepsDataInvariant := by
  unfold Obligations.TickKeepsDataInvariant
  intro inp s t h ht
  have hasked := (((h.agentWrite 0xFF0F inp.writeIF).agentWrite 0xFFFF inp.writeIE).requestIf inp.joypad .joypad).requestIf
    inp.timer .timer
  unfold tick at ht
  dsimp only at ht
  split at ht
  · rename_i s2 hs2
    have hturn : s2.DataInv := by
      split at hs2
      · cases hs2
        exact hasked.hdmaCopy _
      · exact hasked.cpuTick hs2
    have hrest := (((hturn.dmaAdvance 1).requestIf inp.serial .serial).requestIf inp.lcdc .lcdc).requestIf
      inp.vblank .vblank
    cases ht
    exact { hrest with }
  · cases ht
  · cases ht

end Sys2Proof.Machine
end

section
/-! The start states (O53) and the core-local registers on the bus (O46). -/

namespace Sys2Proof.Machine

/-! ### The start states (R45, R46, R400, R403) -/

theorem State.initial_of_powerOn {cfg : Config} (h : cfg.launch = .powerOn) :
    State.initial cfg = State.powerOn cfg := by
  rw [State.initial, h]

theorem State.initial_of_postBoot {cfg : Config} (h : cfg.launch = .postBoot) :
    State.initial cfg = State.postBoot cfg := by
  rw [State.initial, h]

theorem State.postBoot_regs_dmg {cfg : Config} (h : cfg.gbc = false) :
    (State.postBoot cfg).regs = Regs.postBootDmg := by
  simp [State.postBoot, h]

theorem State.postBoot_regs_cgb {cfg : Config} (h : cfg.gbc = true) :
    (State.postBoot cfg).regs = Regs.postBootCgb := by
  simp [State.postBoot, h]

/-- R23: whatever the free values of U18 are, the low nibble of F is 0. -/
theorem State.postBoot_flagsLow (cfg : Config) : (State.postBoot cfg).regs.f &&& 0x0F = 0 := by
  cases h : cfg.gbc with
  | false =>
    rw [State.postBoot_regs_dmg h]
    decide
  | true =>
    rw [State.postBoot_regs_cgb h]
    exact maskF_low _

/-- Settles O53: by the launch state, and for the registers of a start at the cartridge by the variant. -/
theorem startStates : Obligations.StartStates := by
  unfold Obligations.StartStates
  have hif : ∀ cfg, (State.powerOn cfg).ic.ifByte = 0xE0 := fun _ => by simp [State.powerOn, IntCtl.ifByte]
  refine ⟨fun cfg => ?_, rfl, rfl⟩
  cases hlaunch : cfg.launch with
  | powerOn =>
    rw [State.initial_of_powerOn hlaunch]
    exact ⟨rfl, rfl, rfl, hif cfg, rfl, rfl, rfl, rfl, rfl, rfl, BitVec.zero_and, fun _ => ⟨rfl, rfl⟩, nofun⟩
  | postBoot =>
    rw [State.initial_of_postBoot hlaunch]
    refine ⟨rfl, rfl, rfl, hif cfg, rfl, rfl, rfl, rfl, rfl, rfl, State.postBoot_flagsLow cfg, nofun, fun _ => ?_⟩
    cases hgbc : cfg.gbc with
    | false =>
      simp only [State.bc, State.de, State.hl, State.postBoot_regs_dmg hgbc]
      exact ⟨rfl, rfl, rfl, fun _ => by decide, nofun⟩
    | true =>
      rw [State.postBoot_regs_cgb hgbc]
      exact ⟨rfl, rfl, rfl, nofun, fun _ => rfl⟩

/-! ### IF and KEY1 on the bus (R29, R334, R352) -/

/-- On either bus of a CGB (on FlatBus by assumption 23). -/
theorem State.place_key1 {s : State} (h : s.cfg.gbc = true) : s.place 0xFF4D = .key1 := by
  unfold State.place State.flatPlace State.gameBoyPlace ioPlace
  split <;> simp [h]

theorem State.place_key1_dmg {s : State} (h : s.cfg.gbc = false) (hb : s.cfg.bus = .gameBoy) :
    s.place 0xFF4D = .void := by
  simp [State.place, State.gameBoyPlace, ioPlace, h, hb]

theorem State.key1Byte_speed (s : State) (free : Byte) :
    (s.key1Byte free).getLsbD 7 = decide (s.speed = .double) := by
  unfold State.key1Byte
  cases s.speed <;> cases s.prepareSwitch <;> simp

theorem State.key1Byte_switch (s : State) (free : Byte) : (s.key1Byte free).getLsbD 0 = s.prepareSwitch := by
  unfold State.key1Byte
  cases s.speed <;> cases s.prepareSwitch <;> simp

/-- R352: bits 7..5 of IF read 1. -/
theorem IntCtl.ifByte_getLsbD (c : IntCtl) {i : Nat} (hi : i < 8) :
    c.ifByte.getLsbD i = (decide (5 ≤ i) || c.ifr.getLsbD i) := by
  unfold IntCtl.ifByte
  rw [BitVec.getLsbD_append]
  by_cases h : i < 5
  · simp [h, Nat.not_le.mpr h]
  · obtain rfl | rfl | rfl : i = 5 ∨ i = 6 ∨ i = 7 := by omega
    all_goals rfl

/-- Settles O46: each access goes to the register its address is the place of, and the byte read is taken bit by bit. -/
theorem coreLocalRegisters : Obligations.CoreLocalRegisters := by
  unfold Obligations.CoreLocalRegisters
  intro s v
  refine ⟨?_, s.busWrite_ie v, fun i hi => ?_, s.busWrite_if v, fun hgbc => ⟨?_, ?_, ?_⟩, fun hgbc hbus => ⟨?_, ?_⟩⟩
  · rw [State.busRead_ie, State.busWrite_ie]
  · rw [State.busRead_if, State.busWrite_if, IntCtl.ifByte_getLsbD _ hi, BitVec.getLsbD_extractLsb']
    by_cases h : i < 5
    · simp [h]
    · simp [h, Nat.le_of_not_lt h]
  · rw [State.busWrite, State.place_key1 hgbc]
  · rw [State.busRead, State.place_key1 hgbc]
    exact s.key1Byte_speed _
  · rw [State.busRead, State.place_key1 hgbc]
    exact s.key1Byte_switch _
  · rw [State.busRead, State.place_key1_dmg hgbc hbus]
  · rw [State.busWrite, State.place_key1_dmg hgbc hbus]

end Sys2Proof.Machine
end

section
/-! O36: F outside the table of flag writers. What each shared meaning does to F is said once; the rows of R111 and R112 that
are no flag writers are then gone through in the decoder's order. -/

namespace Sys2Proof.Machine

/-! ### F after the shared operations -/

@[simp] theorem State.push16_regs_f (s : State) (v : Word) : (s.push16 v).regs.f = s.regs.f := by rw [State.push16_regs]
@[simp] theorem State.pop16_regs_f (s : State) : s.pop16.2.regs.f = s.regs.f := by rw [State.pop16_regs]
@[simp] theorem State.read8_regs (s : State) (x : Operand8) : (s.read8 x).2.regs = s.regs := by
  cases x with
  | reg r => rfl
  | atHL => exact s.busRead_regs _
@[simp] theorem State.write8_regs_f (s : State) (x : Operand8) (v : Byte) : (s.write8 x v).regs.f = s.regs.f := by
  cases x with
  | reg r => exact s.setR8_regs_f r v
  | atHL => rw [State.write8, State.busWrite_regs]
theorem State.setPair_regs_f {r : StackPair} (h : r ≠ .AF) (s : State) (v : Word) : (s.setPair r v).regs.f = s.regs.f := by
  cases r with
  | AF => exact absurd rfl h
  | _ => rfl

/-! ### The meanings that keep F -/

/-- The flag register after a meaning that answers a next state is the one before. -/
def KeepsF (s : State) (r : Result) : Prop := ∀ t, r = .next t → t.regs.f = s.regs.f

namespace KeepsF

/-- R356: the end of an instruction reaches the interrupt controller only. -/
theorem done {s u : State} (h : u.regs.f = s.regs.f) : KeepsF s (done u) := by
  rintro t ⟨⟩
  exact h

theorem cond {s : State} {b : Bool} {r : Result} (h : KeepsF s r) : KeepsF s (if b then r else Machine.done s) := by
  cases b
  · exact done rfl
  · exact h

variable (s : State)

theorem moveReg (d r : Reg8) : KeepsF s (moveReg d r s) := done (by simp)
theorem loadImm8 (d : Reg8) (n : Byte) : KeepsF s (loadImm8 d n s) := done (by simp)
theorem loadFromHL (d : Reg8) : KeepsF s (loadFromHL d s) := done (by simp)
theorem storeToHL (v : Byte) : KeepsF s (storeToHL v s) := done (by simp)
theorem loadA (m : MemForm) : KeepsF s (loadA m s) := done (by simp)
theorem storeA (m : MemForm) : KeepsF s (storeA m s) := done (by simp)
theorem loadAPost (d : Word) : KeepsF s (loadAPost d s) := done (by simp)
theorem storeAPost (d : Word) : KeepsF s (storeAPost d s) := done (by simp)
theorem loadImm16 (r : Reg16) (nn : Word) : KeepsF s (loadImm16 r nn s) := done (by simp)
theorem pushPair (r : StackPair) : KeepsF s (pushPair r s) := done (by simp)
theorem popPair {r : StackPair} (h : r ≠ .AF) : KeepsF s (popPair r s) :=
  done (by rw [State.setPair_regs_f h, State.pop16_regs_f])
theorem increment16 (r : Reg16) : KeepsF s (increment16 r s) := done (by simp)
theorem decrement16 (r : Reg16) : KeepsF s (decrement16 r s) := done (by simp)
theorem clearBit (b : Fin 8) (x : Operand8) : KeepsF s (clearBit b x s) := done (by simp)
theorem raiseBit (b : Fin 8) (x : Operand8) : KeepsF s (raiseBit b x s) := done (by simp)
theorem jumpTo (a : Word) : KeepsF s (jumpTo a s) := done rfl
theorem jumpBy (e : Byte) : KeepsF s (jumpBy e s) := done rfl
theorem callTo (a : Word) : KeepsF s (callTo a s) := done (by simp)
theorem returnTo : KeepsF s (returnTo s) := done (by simp)
theorem returnFromInterrupt : KeepsF s (returnFromInterrupt s) := done (by simp)

theorem execSTOP (pad : Byte) : KeepsF s (execSTOP pad s) := by
  intro t ht
  unfold Machine.execSTOP at ht
  split at ht <;> cases ht <;> rfl

theorem execHALT : KeepsF s (execHALT s) := by
  intro t ht
  unfold Machine.execHALT at ht
  split at ht <;> cases ht <;> rfl

theorem execPREFIX_CB : KeepsF s (execPREFIX_CB s) := by
  rintro t ⟨⟩
  rfl

theorem execUNDEFINED (op : Byte) : KeepsF s (execUNDEFINED op s) := by rintro t ⟨⟩

end KeepsF

/-! ### The decoder's rows -/

/-- R102: an opcode byte is its three fields. -/
theorem opByte_fields (op : Byte) : op = opByte (fieldX op) (fieldY op) (fieldZ op) := by
  apply BitVec.eq_of_toNat_eq
  have := op.isLt
  simp only [opByte, fieldX, fieldY, fieldZ, BitVec.toNat_ofNat]
  omega

theorem stackPair_AF {n : Nat} (h : stackPair n = .AF) : 3 ≤ n := by
  by_contra hn
  interval_cases n <;> cases h

/-- R111, `x = 0`: the columns but the 16-bit additions, INC, DEC and the accumulator operations. -/
theorem decodeX0_keepsF {op : Byte} (hz : fieldZ op ∉ [4, 5, 7]) (hq : ¬(fieldZ op = 1 ∧ fieldQ op = 1)) (b1 : Byte)
    (nn : Word) (s : State) : KeepsF s (exec (decodeX0 op b1 nn) s) := by
  have hcolumn : fieldZ op = 0 ∨ fieldZ op = 1 ∨ fieldZ op = 2 ∨ fieldZ op = 3 ∨ fieldZ op = 6 := by
    have hlt : fieldZ op < 8 := Nat.mod_lt _ (by decide)
    simp only [List.mem_cons, List.not_mem_nil, or_false] at hz
    omega
  unfold decodeX0
  obtain h | h | h | h | h := hcolumn <;> simp only [h]
  · split
    · exact .done rfl
    · exact .done (by simp)
    · exact .execSTOP s b1
    · exact .jumpBy s b1
    · rw [exec_jrCond]
      exact .cond (.jumpBy s b1)
  · split
    · rw [exec_ldImm16]
      exact .loadImm16 s _ nn
    · rename_i hq0
      have hq1 : fieldQ op = 1 := by
        unfold fieldQ at hq0 ⊢
        omega
      exact absurd ⟨h, hq1⟩ hq
  · split
    · exact .storeA s .atBC
    · exact .loadA s .atBC
    · exact .storeA s .atDE
    · exact .loadA s .atDE
    · exact .storeAPost s 1
    · exact .loadAPost s 1
    · exact .storeAPost s (-1)
    · exact .loadAPost s (-1)
  · split
    · rw [exec_inc16]
      exact .increment16 s _
    · rw [exec_dec16]
      exact .decrement16 s _
  · generalize operand8 (fieldY op) = x
    cases x with
    | reg d =>
      rw [exec_ldImm]
      exact .loadImm8 s d b1
    | atHL => exact .storeToHL s b1

/-- R111, `x = 1`: the 8-bit loads and HALT. -/
theorem decodeX1_keepsF (op : Byte) (s : State) : KeepsF s (exec (decodeX1 op) s) := by
  unfold decodeX1
  split
  · rw [exec_ldReg]
    exact .moveReg s _ _
  · rw [exec_ldFromHL]
    exact .loadFromHL s _
  · rw [exec_ldToHL]
    exact .storeToHL s _
  · exact .execHALT s

/-- R111, `x = 3`: all but the ALU operations on d8, ADD SP,r8, LD HL,SP+r8 and POP AF. -/
theorem decodeX3_keepsF {op : Byte} (hx : fieldX op = 3) (hz : fieldZ op ≠ 6)
    (hop : op ∉ ([0xE8, 0xF8, 0xF1] : List Byte)) (b1 : Byte) (nn : Word) (s : State) :
    KeepsF s (exec (decodeX3 op b1 nn) s) := by
  have hfields : ∀ y z, fieldY op = y → fieldZ op = z → op = opByte 3 y z := by
    rintro y z rfl rfl
    exact hx ▸ opByte_fields op
  unfold decodeX3
  dsimp only
  split
  case h_1 hz0 =>
    split
    · exact .storeA s (.atA8 b1)
    · rename_i hy
      exact absurd (hfields 5 0 hy hz0 ▸ by decide) hop
    · exact .loadA s (.atA8 b1)
    · rename_i hy
      exact absurd (hfields 7 0 hy hz0 ▸ by decide) hop
    · rw [exec_retCond]
      exact .cond (.returnTo s)
  case h_2 hz1 =>
    split
    · rename_i hq
      rw [exec_pop]
      refine .popPair s fun hpair => ?_
      have hp := stackPair_AF hpair
      have hy : fieldY op = 6 := by
        unfold fieldP at hp
        unfold fieldQ at hq
        unfold fieldY
        omega
      exact absurd (hfields 6 1 hy hz1 ▸ by decide) hop
    · split
      · exact .returnTo s
      · exact .returnFromInterrupt s
      · exact .jumpTo s s.hl
      · exact .done rfl
  case h_3 =>
    split
    · exact .storeA s .atC
    · exact .storeA s (.atA16 nn)
    · exact .loadA s .atC
    · exact .loadA s (.atA16 nn)
    · rw [exec_jpCond]
      exact .cond (.jumpTo s nn)
  case h_4 =>
    split
    · exact .jumpTo s nn
    · exact .execPREFIX_CB s
    · exact .done rfl
    · exact .done rfl
    · exact .execUNDEFINED s op
  case h_5 =>
    split
    · rw [exec_callCond]
      exact .cond (.callTo s nn)
    · exact .execUNDEFINED s op
  case h_6 =>
    split
    · rw [exec_push]
      exact .pushPair s _
    · split
      · exact .callTo s nn
      · exact .execUNDEFINED s op
  case h_7 hz6 => exact absurd hz6 hz
  case h_8 =>
    rw [exec_rst]
    exact .callTo s _

/-- R112: RES and SET. -/
theorem decodeCB_keepsF {op : Byte} (hx : 2 ≤ fieldX op) (s : State) : KeepsF s (exec (decodeCB op) s) := by
  have hquarter : fieldX op = 2 ∨ fieldX op = 3 := by
    have := op.isLt
    unfold fieldX at hx ⊢
    omega
  unfold decodeCB
  obtain h | h := hquarter <;> simp only [h]
  · rw [exec_resOp]
    exact .clearBit s _ _
  · rw [exec_setOp]
    exact .raiseBit s _ _

/-- Settles O36: by the table the opcode is in and its quarter of it. -/
theorem otherInstructionsKeepFlags : Obligations.OtherInstructionsKeepFlags := by
  unfold Obligations.OtherInstructionsKeepFlags
  intro b0 b1 b2 s t ht hrow
  suffices h : KeepsF s (exec (decodeBytes b0 b1 b2) s) from h t ht
  unfold decodeBytes
  split at hrow
  · rw [if_pos ‹_›]
    exact decodeCB_keepsF hrow s
  · rw [if_neg ‹_›]
    unfold decodePrimary
    obtain hx | ⟨hx, hz, hq⟩ | ⟨hx, hz, hop⟩ := hrow <;> simp only [hx]
    · exact decodeX1_keepsF b0 s
    · exact decodeX0_keepsF hz hq b1 _ s
    · exact decodeX3_keepsF hx hz hop b1 _ s

end Sys2Proof.Machine
end

section
/-! O55: a step keeps the invariant. The data part goes through `State.SubstepInv`, as in a tick. That the M-cycles of a step end
at a boundary is a bound: each sub-step reaches the boundary or gets nearer to it (`substep_nearer`), by the measure
`State.remaining`, which is 16, the fuel of `timedStep`, at a boundary. -/

namespace Sys2Proof.Machine

/-! ### What a fetch can decode to -/

/-- R111, by the opcode byte, whatever the operand bytes are. -/
theorem decodePrimary_ne_PREFIX_CB (b1 b2 : Byte) : ∀ op : Byte, op ≠ 0xCB → decodePrimary op b1 b2 ≠ .PREFIX_CB :=
  of_decide_eq_true rfl

theorem decodeCB_ne_PREFIX_CB : ∀ op : Byte, decodeCB op ≠ .PREFIX_CB := by decide

/-- R115: a fetch never answers the CB byte alone. -/
theorem decodeBytes_ne_PREFIX_CB (b0 b1 b2 : Byte) : decodeBytes b0 b1 b2 ≠ .PREFIX_CB := by
  unfold decodeBytes
  split
  · exact decodeCB_ne_PREFIX_CB b1
  · exact decodePrimary_ne_PREFIX_CB b1 b2 b0 ‹_›

/-! ### What an instruction can do -/

/-- The instructions that `exec_ordinary` leaves out, one by one. -/
theorem Instr.special_cases {i : Instr} (h : Instr.special i = true) :
    i = .EI ∨ i = .DI ∨ i = .RETI ∨ i = .HALT ∨ i = .PREFIX_CB ∨ (∃ pad, i = .STOP pad) ∨ ∃ op, i = .UNDEFINED op := by
  unfold Instr.special at h
  split at h <;> simp_all

/-- An instruction ends through its micro-ops, at most the last of which switches the interrupt controller, or it is HALT, STOP
or the CB byte alone. -/
theorem exec_cases {i : Instr} {s t : State} (ht : exec i s = .next t) :
    (∃ u, Ordinary s u ∧ t = u.instructionFinished) ∨
    (∃ u enable delayed, Ordinary s u ∧ t = (u.switchInterrupts enable delayed).instructionFinished) ∨
    (i = .HALT ∧ execHALT s = .next t) ∨ (∃ pad, i = .STOP pad ∧ execSTOP pad s = .next t) ∨
    (i = .PREFIX_CB ∧ execPREFIX_CB s = .next t) := by
  cases hspecial : Instr.special i with
  | false =>
    obtain ⟨u, hu, ho⟩ := exec_ordinary i s hspecial
    rw [hu] at ht
    cases ht
    exact .inl ⟨u, ho, rfl⟩
  | true =>
    obtain rfl | rfl | rfl | rfl | rfl | ⟨pad, rfl⟩ | ⟨op, rfl⟩ := Instr.special_cases hspecial
    · cases ht
      exact .inr (.inl ⟨s, true, true, .refl s, rfl⟩)
    · cases ht
      exact .inr (.inl ⟨s, false, true, .refl s, rfl⟩)
    · cases ht
      exact .inr (.inl ⟨_, true, false, (Ordinary.pop16 s).trans (.setPc _ _), rfl⟩)
    · exact .inr (.inr (.inl ⟨rfl, ht⟩))
    · exact .inr (.inr (.inr (.inr ⟨rfl, ht⟩)))
    · exact .inr (.inr (.inr (.inl ⟨pad, rfl, ht⟩)))
    · cases ht

/-! ### The step keeps the data part, at divider 0 -/

namespace State.SubstepInv

variable {s t : State}

theorem switchInterrupts (h : s.SubstepInv) (enable delayed : Bool) : (s.switchInterrupts enable delayed).SubstepInv :=
  ⟨h.data.switchInterrupts enable delayed, h.aligned⟩

theorem exec (h : s.SubstepInv) {i : Instr} (ht : Machine.exec i s = .next t) : t.SubstepInv := by
  obtain ⟨u, ho, rfl⟩ | ⟨u, enable, delayed, ho, rfl⟩ | ⟨-, ht⟩ | ⟨pad, -, ht⟩ | ⟨-, ht⟩ := exec_cases ht
  · exact (ho.substepInv h).instructionFinished
  · exact ((ho.substepInv h).switchInterrupts enable delayed).instructionFinished
  · exact h.execHALT ht
  · exact h.execSTOP ht
  · cases ht
    exact h.control _ _ _

theorem fetch (h : s.SubstepInv) : s.fetch.st.SubstepInv :=
  ⟨h.data.fetch, by rw [State.fetch_clockCycle, h.aligned]⟩

theorem takeInterrupt (h : s.SubstepInv) : (Machine.takeInterrupt s).SubstepInv := by
  unfold Machine.takeInterrupt
  dsimp only
  split
  · exact h.acceptInterrupt.irqReadIF.irqReadIE
  · exact h.acceptInterrupt.irqReadIF.irqReadIE.irqPush1.irqPush2.irqJump

theorem cpuStep (h : s.SubstepInv) (hidle : s.phase.idle = true) (ht : Machine.cpuStep s = .next t) :
    t.SubstepInv := by
  obtain ⟨-, e⟩ | ⟨-, -, e⟩ | ⟨-, -, -, e⟩ | ⟨-, -, e⟩ := cpuStep_cases hidle <;> rw [e] at ht
  · cases ht
    exact h.takeInterrupt
  · exact h.fetch.exec ht
  · exact (h.control .opcode s.latch s.irq).fetch.exec ht
  · cases ht
    exact h

theorem dmaAdvance (h : s.SubstepInv) (n : Nat) : (s.dmaAdvance n).SubstepInv :=
  ⟨h.data.dmaAdvance n, by rw [State.dmaAdvance_clockCycle, h.aligned]⟩

/-- R78: the DMA's ticks, the sub-step, the DMA's turn in the last tick. -/
theorem mCycle (h : s.SubstepInv) (ht : Machine.mCycle s = .next t) : t.SubstepInv := by
  unfold Machine.mCycle at ht
  split at ht <;> cases ht
  rename_i u hu
  exact ((h.dmaAdvance _).substep hu).dmaAdvance 1

/-- R148: at once or M-cycle by M-cycle. -/
theorem step (h : s.SubstepInv) (hidle : s.phase.idle = true) (ht : Machine.step s = .next t) : t.SubstepInv :=
  step_keeps (P := SubstepInv) (fun u l hu => hu.control u.phase l u.irq) (fun _ _ hu => hu.mCycle)
    (fun _ _ hidle hu => hu.cpuStep hidle) hidle h ht

end State.SubstepInv

/-! ### What the CPU does at once ends at a boundary -/

theorem execSTOP_idle {pad : Byte} {s t : State} (ht : execSTOP pad s = .next t) : t.phase.idle = true := by
  unfold execSTOP at ht
  split at ht <;> cases ht <;> rfl

theorem execHALT_idle {s t : State} (ht : execHALT s = .next t) : t.phase.idle = true := by
  unfold execHALT at ht
  split at ht <;> cases ht <;> rfl

/-- R139: only the CB byte alone (R335) leaves the machine inside an instruction. -/
theorem exec_idle {i : Instr} (hi : i ≠ .PREFIX_CB) {s t : State} (hidle : s.phase.idle = true)
    (ht : exec i s = .next t) : t.phase.idle = true := by
  obtain ⟨u, ho, rfl⟩ | ⟨u, enable, delayed, ho, rfl⟩ | ⟨-, ht⟩ | ⟨pad, -, ht⟩ | ⟨hcb, -⟩ := exec_cases ht
  · exact ho.phase ▸ hidle
  · exact ho.phase ▸ hidle
  · exact execHALT_idle ht
  · exact execSTOP_idle ht
  · exact absurd hcb hi

theorem instructionStep_idle {s t : State} (hidle : s.phase.idle = true) (ht : instructionStep s = .next t) :
    t.phase.idle = true :=
  exec_idle (decodeBytes_ne_PREFIX_CB _ _ _) (by rwa [State.fetch_phase]) ht

theorem irqJump_phase (s : State) : (irqJump s).phase = .opcode := by
  unfold irqJump
  split <;> rfl

theorem takeInterrupt_phase (s : State) : (takeInterrupt s).phase = .opcode := by
  unfold takeInterrupt
  dsimp only
  split
  · assumption
  · exact irqJump_phase _

theorem cpuStep_idle {s t : State} (hidle : s.phase.idle = true) (ht : cpuStep s = .next t) : t.phase.idle = true := by
  obtain ⟨-, e⟩ | ⟨-, -, e⟩ | ⟨-, -, -, e⟩ | ⟨-, -, e⟩ := cpuStep_cases hidle <;> rw [e] at ht
  · cases ht
    rw [takeInterrupt_phase]
    rfl
  · exact instructionStep_idle hidle ht
  · exact instructionStep_idle (s := { s with phase := .opcode }) rfl ht
  · cases ht
    exact hidle

/-! ### How far the next boundary is (R131 to R139, R361 to R365) -/

/-- A bound on the sub-steps from `s` to the next boundary: a whole instruction from a boundary itself. -/
def State.remaining (s : State) : Nat :=
  match s.phase with
  | .opcode | .halted | .stopped => 16
  | .extOpcode => 15
  | .operand => operandLength s.latch.ops - s.latch.operandIndex + (s.latch.ops.length - s.latch.opIndex) + 2
  | .running => s.latch.ops.length - s.latch.opIndex + 1
  | .irqReadIF => 5
  | .irqReadIE => 4
  | .irqPush1 => 3
  | .irqPush2 => 2
  | .irqJump => 1

/-- `t` is at a boundary, or nearer to the next one than `s`. -/
def State.Nearer (s t : State) : Prop := t.phase.idle = true ∨ t.remaining < s.remaining

/-- The OAM DMA's turn does not move the machine in its instruction. -/
@[simp] theorem State.remaining_dmaAdvance (s : State) (n : Nat) : (s.dmaAdvance n).remaining = s.remaining := by
  simp [State.remaining]

theorem State.remaining_pos (s : State) : 0 < s.remaining := by
  unfold State.remaining
  split <;> omega

theorem State.remaining_idle {s : State} (h : s.phase.idle = true) : s.remaining = 16 := by
  unfold State.remaining
  unfold Phase.idle at h
  split at h <;> simp_all

theorem State.remaining_extOpcode {s : State} (h : s.phase = .extOpcode) : s.remaining = 15 := by
  rw [State.remaining, h]

theorem State.remaining_operand {s : State} (h : s.phase = .operand) : s.remaining =
    operandLength s.latch.ops - s.latch.operandIndex + (s.latch.ops.length - s.latch.opIndex) + 2 := by
  rw [State.remaining, h]

theorem State.remaining_running {s : State} (h : s.phase = .running) :
    s.remaining = s.latch.ops.length - s.latch.opIndex + 1 := by
  rw [State.remaining, h]

/-- R107, R121: the longest list of the primary table is that of CALL cc, with two operand bytes. -/
theorem primaryOps_short : ∀ op : Byte, operandLength (primaryOps op) + (primaryOps op).length ≤ 9 := by decide

theorem cbOps_short : ∀ op : Byte, operandLength (cbOps op) + (cbOps op).length ≤ 9 := by decide

theorem Latches.ops_short (l : Latches) : operandLength l.ops + l.ops.length ≤ 9 := by
  unfold Latches.ops
  split
  · rename_i e _
    cases e with
    | primary op => exact primaryOps_short op
    | cb op => exact cbOps_short op
  · decide

theorem State.remaining_operand_lt {s : State} (h : s.phase = .operand) : s.remaining < 15 := by
  have := s.latch.ops_short
  rw [s.remaining_operand h]
  omega

theorem fetchState_remaining {s t : State} (ht : fetchState s = .next t) : t.remaining < 16 := by
  unfold fetchState at ht
  dsimp only at ht
  split at ht
  · cases ht
  · split at ht
    · cases ht
      exact (State.remaining_extOpcode rfl).trans_lt (by decide)
    · split at ht <;> cases ht
      · exact (State.remaining_extOpcode rfl).trans_lt (by decide)
      · exact Nat.lt_succ_of_lt (State.remaining_operand_lt rfl)

theorem fetchSecond_remaining (s : State) : (fetchSecond s).remaining < 15 := State.remaining_operand_lt rfl

theorem fetchOperand_latch (s : State) :
    (fetchOperand s).latch.ops = s.latch.ops ∧ (fetchOperand s).latch.opIndex = s.latch.opIndex ∧
      (fetchOperand s).latch.operandIndex = s.latch.operandIndex + 1 := by
  unfold fetchOperand
  dsimp only
  rw [State.fetch8_latch]
  split
  · rename_i h
    exact ⟨rfl, rfl, by rw [h]⟩
  · exact ⟨rfl, rfl, rfl⟩

theorem fetchOperand_remaining {s : State} (hs : s.phase = .operand)
    (hmore : s.latch.operandIndex < operandLength s.latch.ops) : (fetchOperand s).remaining < s.remaining := by
  have hp : (fetchOperand s).phase = .operand := s.fetch8_phase.trans hs
  obtain ⟨hops, hop, hoperand⟩ := fetchOperand_latch s
  rw [State.remaining_operand hs, State.remaining_operand hp, hops, hop, hoperand]
  omega

theorem MicroOp.execute_phase (o : Operands) (ctx : Word) (s : State) (op : MicroOp) :
    (op.execute o ctx s).2.phase = s.phase := by
  cases op with
  | switchInterrupts enable delayed => rfl
  | _ => exact (MicroOp.execute_ordinary o ctx s (by simp)).phase

theorem runMicroOp_phase (op : MicroOp) (s : State) : (runMicroOp op s).phase = s.phase :=
  (op.execute_phase _ _ _).trans (op.check_ordinary _ s).phase

theorem runMicroOp_remaining {s : State} {op : MicroOp} (hs : s.phase = .running)
    (hop : s.latch.ops[s.latch.opIndex]? = some op) : (runMicroOp op s).remaining < s.remaining := by
  have hlt : s.latch.opIndex < s.latch.ops.length := (List.getElem?_eq_some_iff.mp hop).1
  rw [State.remaining_running hs, State.remaining_running ((runMicroOp_phase op s).trans hs)]
  change s.latch.ops.length - (s.latch.opIndex + 1) + 1 < _
  omega

/-! ### Each sub-step gets nearer to the boundary -/

/-- The states the loop of R131 step 5 works in. -/
def Phase.looping : Phase → Bool
  | .opcode | .extOpcode | .operand | .running => true
  | _ => false

/-- R131 step 5: a pass of the loop that ends the sub-step gets nearer to the boundary, or leaves the state as it is because the
bus has been used (or there is nothing for the loop to do); one that goes on goes on from nearer. -/
theorem engineLoop_pass {fuel : Nat} {accessed : Bool} {s t : State} (ht : engineLoop (fuel + 1) accessed s = .next t) :
    s.Nearer t ∨ (t = s ∧ (s.phase.looping = true → accessed = true)) ∨
      ∃ u acc, u.remaining < s.remaining ∧ engineLoop fuel acc u = .next t := by
  unfold engineLoop at ht
  cases hp : s.phase with simp only [hp] at ht
  | opcode =>
    split at ht
    · rename_i u hu
      have h16 : s.remaining = 16 := State.remaining_idle (by rw [hp]; rfl)
      exact .inr (.inr ⟨u, true, h16 ▸ fetchState_remaining hu, ht⟩)
    · cases ht
    · cases ht
  | extOpcode =>
    split at ht
    · cases ht
      exact .inr (.inl ⟨rfl, fun _ => ‹_›⟩)
    · exact .inr (.inr ⟨_, true, State.remaining_extOpcode hp ▸ fetchSecond_remaining s, ht⟩)
  | operand =>
    split at ht
    · rename_i hmore
      split at ht
      · cases ht
        exact .inr (.inl ⟨rfl, fun _ => ‹_›⟩)
      · exact .inr (.inr ⟨_, true, fetchOperand_remaining hp hmore, ht⟩)
    · refine .inr (.inr ⟨_, accessed, ?_, ht⟩)
      rw [State.remaining_operand hp, State.remaining_running rfl]
      dsimp only
      omega
  | running =>
    split at ht
    · exact .inl (.inl (execSTOP_idle ht))
    · split at ht
      · exact .inl (.inl (execHALT_idle ht))
      · split at ht
        · cases ht
          exact .inl (.inl rfl)
        · rename_i op hop
          split at ht
          · rename_i hbusy
            cases ht
            exact .inr (.inl ⟨rfl, fun _ => (Bool.and_eq_true_iff.mp hbusy).1⟩)
          · split at ht
            · cases ht
              exact .inl (.inl rfl)
            · split at ht
              · cases ht
                exact .inl (.inr (runMicroOp_remaining hp hop))
              · exact .inr (.inr ⟨_, _, runMicroOp_remaining hp hop, ht⟩)
  | _ =>
    cases ht
    exact .inr (.inl ⟨rfl, by simp [Phase.looping]⟩)

/-- However many passes it makes, the loop ends no further from the boundary. -/
theorem engineLoop_notFurther {fuel : Nat} {accessed : Bool} {s t : State}
    (ht : engineLoop fuel accessed s = .next t) : t.phase.idle = true ∨ t.remaining ≤ s.remaining := by
  induction fuel generalizing accessed s with
  | zero =>
    cases ht
    exact .inr (Nat.le_refl _)
  | succ fuel ih =>
    obtain h | ⟨rfl, -⟩ | ⟨u, acc, hu, ht⟩ := engineLoop_pass ht
    · exact h.imp_right Nat.le_of_lt
    · exact .inr (Nat.le_refl _)
    · exact (ih ht).imp_right fun h => h.trans hu.le

/-- R131: a sub-step starts with the bus free, so the loop makes at least one pass. -/
theorem engineLoop_nearer {fuel : Nat} {s t : State} (hs : s.phase.looping = true)
    (ht : engineLoop (fuel + 1) false s = .next t) : s.Nearer t := by
  obtain h | ⟨-, h⟩ | ⟨u, acc, hu, ht⟩ := engineLoop_pass ht
  · exact h
  · cases h hs
  · exact (engineLoop_notFurther ht).imp_right fun h => h.trans_lt hu

theorem irqReadIE_phase (s : State) : (irqReadIE s).phase = .opcode ∨ (irqReadIE s).phase = .irqPush1 := by
  unfold irqReadIE
  dsimp only
  split
  · exact .inl rfl
  · exact .inr rfl

theorem irqSubstep_nearer {s t : State} (ht : irqSubstep s = some t) : s.Nearer t := by
  unfold irqSubstep at ht
  split at ht <;> cases ht
  case h_1 hp => exact .inr (by simp only [State.remaining, hp, irqReadIF]; decide)
  case h_2 hp =>
    obtain h | h := irqReadIE_phase s
    · exact .inl (by rw [h]; rfl)
    · exact .inr (by simp only [State.remaining, hp, h]; decide)
  case h_3 hp => exact .inr (by simp only [State.remaining, hp, irqPush1]; decide)
  case h_4 hp => exact .inr (by simp only [State.remaining, hp, irqPush2]; decide)
  case h_5 hp => exact .inl (by rw [irqJump_phase]; rfl)

theorem acceptInterrupt_phase (s : State) : (acceptInterrupt s).phase = .irqReadIF := by
  unfold acceptInterrupt
  split <;> rfl

theorem acceptInterrupt_remaining {s : State} (h : s.phase.idle = true) : (acceptInterrupt s).remaining ≤ s.remaining := by
  have h5 : (acceptInterrupt s).remaining = 5 := by simp only [State.remaining, acceptInterrupt_phase]
  rw [h5, State.remaining_idle h]
  decide

theorem substep_nearer {s t : State} (ht : substep s = .next t) : s.Nearer t := by
  have hle : (if s.phase.idle && s.ic.accepts then acceptInterrupt s else s).remaining ≤ s.remaining := by
    split
    · rename_i h
      exact acceptInterrupt_remaining (Bool.and_eq_true_iff.mp h).1
    · exact Nat.le_refl _
  unfold substep at ht
  dsimp only at ht
  generalize (if s.phase.idle && s.ic.accepts then acceptInterrupt s else s) = s1 at hle ht
  suffices h : s1.Nearer t from h.imp_right fun h => h.trans_le hle
  split at ht
  · cases ht
    exact irqSubstep_nearer ‹_›
  · rename_i hirq
    cases hp : s1.phase with simp only [hp] at ht
    | halted =>
      split at ht
      · have h16 : s1.remaining = 16 := State.remaining_idle (by rw [hp]; rfl)
        have hnear := engineLoop_nearer (s := { s1 with phase := .opcode }) rfl ht
        exact hnear.imp_right fun h => h.trans_eq ((State.remaining_idle rfl).trans h16.symm)
      · cases ht
        exact .inl (by rw [hp]; rfl)
    | stopped =>
      cases ht
      exact .inl (by rw [hp]; rfl)
    | opcode | extOpcode | operand | running => exact engineLoop_nearer (by rw [hp]; rfl) ht
    | _ => simp [irqSubstep, hp] at hirq

/-! ### M-cycles reach the boundary -/

theorem mCycle_nearer {s t : State} (ht : mCycle s = .next t) : s.Nearer t := by
  unfold mCycle at ht
  split at ht <;> cases ht
  rename_i u hu
  simpa [State.Nearer] using substep_nearer hu

/-- As many M-cycles as `State.remaining` says are enough. -/
theorem mCycles_idle {n : Nat} {s t : State} (hn : s.remaining ≤ n) (ht : mCycles n s = .next t) :
    t.phase.idle = true := by
  induction n generalizing s with
  | zero => exact absurd s.remaining_pos (by omega)
  | succ n ih =>
    unfold mCycles at ht
    split at ht
    · rename_i u hu
      split at ht
      · cases ht
        assumption
      · rename_i hbusy
        obtain h | h := mCycle_nearer hu
        · exact absurd h hbusy
        · exact ih (by omega) ht
    · cases ht
    · cases ht

theorem timedStep_idle {s t : State} (hidle : s.phase.idle = true) (ht : timedStep s = .next t) :
    t.phase.idle = true := by
  unfold timedStep at ht
  split at ht <;> cases ht
  rename_i u hu
  exact mCycles_idle (n := mCycleFuel) (t := u) (State.remaining_idle hidle).le hu

theorem step_idle {s t : State} (hidle : s.phase.idle = true) (ht : step s = .next t) : t.phase.idle = true := by
  obtain ⟨-, e, -⟩ | e := step_cases hidle <;> rw [e] at ht
  · exact cpuStep_idle hidle ht
  · exact timedStep_idle hidle ht

/-- Settles O55: the step keeps the data part with the divider at 0, and ends at a boundary. -/
theorem stepKeepsInvariant : Obligations.StepKeepsInvariant := by
  unfold Obligations.StepKeepsInvariant
  intro s t h ht
  have hsub : t.SubstepInv := State.SubstepInv.step ⟨h.data, h.aligned⟩ h.boundary ht
  exact ⟨hsub.data, hsub.aligned, step_idle h.boundary ht⟩

end Sys2Proof.Machine
end

section
/-! Encoding and decoding (O51, O52, O33, O34, O50). One direction goes by the constructor, the other by the opcode byte and how
many bytes it takes; operand bytes stay variables in both. -/

namespace Sys2Proof.Machine

/-! ### Decoding an encoding (R100, R101, R106, R122) -/

/-- R106: an instruction's 16-bit operand is put together again from its two bytes. -/
theorem decode_wordOperand (f : Word → Instr) {bytes rest : List Byte} {nn : Word}
    (h : decode bytes = .ok (f (pairOf (hiByte nn) (loByte nn)), rest)) : decode bytes = .ok (f nn, rest) := by
  rwa [pairOf_bytes] at h

/-- R113: each of the eleven bytes is decoded to itself. -/
theorem decode_undefined (rest : List Byte) {op : Byte} (h : op ∈ undefinedOpcodes) :
    decode (op :: rest) = .ok (.UNDEFINED op, rest) := by
  fin_cases h <;> rfl

/-- Settles O51, by the constructor: a row of the table of R122 fixes the opcode bytes, on which the decoder computes, and
leaves the operand bytes as they stand. -/
theorem decodeOfEncode : Obligations.DecodeOfEncode := by
  unfold Obligations.DecodeOfEncode
  intro i rest hwf hcb
  cases i with
  | UNDEFINED op => exact decode_undefined rest (List.contains_iff_mem.mp hwf)
  | PREFIX_CB =>
    rw [hcb rfl]
    rfl
  | LD_BC_d16 nn | LD_DE_d16 nn | LD_HL_d16 nn | LD_SP_d16 nn | LD__a16__SP nn | LD__a16__A nn | LD_A__a16 nn
  | JP_a16 nn | JP_NZ_a16 nn | JP_Z_a16 nn | JP_NC_a16 nn | JP_C_a16 nn
  | CALL_a16 nn | CALL_NZ_a16 nn | CALL_Z_a16 nn | CALL_NC_a16 nn | CALL_C_a16 nn => exact decode_wordOperand _ rfl
  | _ => rfl

/-! ### Encoding what was decoded (R111, R112, R120) -/

/-- R103: the opcodes with one operand byte, STOP's ignored one (R116) counted; the CB byte is apart. -/
def byteOpcodes : List Byte :=
  [0x06, 0x0E, 0x16, 0x1E, 0x26, 0x2E, 0x36, 0x3E, 0xC6, 0xCE, 0xD6, 0xDE, 0xE6, 0xEE, 0xF6, 0xFE, 0x18, 0x20, 0x28, 0x30,
    0x38, 0xE0, 0xE8, 0xF0, 0xF8, 0x10]

/-- R103: the opcodes with two operand bytes. -/
def wordOpcodes : List Byte :=
  [0x01, 0x11, 0x21, 0x31, 0x08, 0xC2, 0xC3, 0xCA, 0xD2, 0xDA, 0xC4, 0xCC, 0xCD, 0xD4, 0xDC, 0xEA, 0xFA]

/-- R103, R111 column `len`. -/
theorem bytesAfter_cases : ∀ op : Byte, op = 0xCB ∨ bytesAfter op = 0 ∨ (bytesAfter op = 1 ∧ op ∈ byteOpcodes) ∨
    (bytesAfter op = 2 ∧ op ∈ wordOpcodes) := by decide

theorem encode_decodeCB : ∀ op : Byte, encode (decodeCB op) = [0xCB, op] := by decide

/-- Without operands the opcode byte says it all, whatever stands after it. -/
theorem encode_decodeBytes_plain (b1 b2 : Byte) : ∀ op : Byte, bytesAfter op = 0 → encode (decodeBytes op b1 b2) = [op] :=
  of_decide_eq_true rfl

theorem encode_decodeBytes_byte {op : Byte} (h : op ∈ byteOpcodes) (b1 b2 : Byte) :
    encode (decodeBytes op b1 b2) = [op, b1] := by
  fin_cases h <;> rfl

/-- R106: the operand's two bytes are those it was put together from. -/
theorem encode_decodeBytes_word {op : Byte} (h : op ∈ wordOpcodes) (b1 b2 : Byte) :
    encode (decodeBytes op b1 b2) = [op, b1, b2] := by
  suffices hw : encode (decodeBytes op b1 b2) = [op, loByte (pairOf b2 b1), hiByte (pairOf b2 b1)] by
    rwa [loByte_pairOf, hiByte_pairOf] at hw
  fin_cases h <;> rfl

/-- R103: an instruction's encoding is its opcode byte and as many of the bytes after it as the opcode takes. -/
theorem encode_decodeBytes (b0 b1 b2 : Byte) :
    encode (decodeBytes b0 b1 b2) = b0 :: [b1, b2].take (bytesAfter b0) := by
  obtain rfl | h | ⟨h, hop⟩ | ⟨h, hop⟩ := bytesAfter_cases b0
  · exact encode_decodeCB b1
  · rw [h]
    exact encode_decodeBytes_plain b1 b2 b0 h
  · rw [h]
    exact encode_decodeBytes_byte hop b1 b2
  · rw [h]
    exact encode_decodeBytes_word hop b1 b2

theorem decodePrimary_wf (b1 b2 : Byte) : ∀ op : Byte, op ≠ 0xCB → (decodePrimary op b1 b2).wf = true :=
  of_decide_eq_true rfl

theorem decodeCB_wf : ∀ op : Byte, (decodeCB op).wf = true := by decide

/-- R113, R120: what the decoder answers is well formed, an undefined opcode included. -/
theorem decodeBytes_wf (b0 b1 b2 : Byte) : (decodeBytes b0 b1 b2).wf = true := by
  unfold decodeBytes
  split
  · exact decodeCB_wf b1
  · exact decodePrimary_wf b1 b2 b0 ‹_›

/-- What decodes is the CB byte alone (R335), or an instruction and the rest after as many bytes as its opcode takes. -/
theorem decode_cases {bytes rest : List Byte} {i : Instr} (h : decode bytes = .ok (i, rest)) :
    (bytes = [0xCB] ∧ i = .PREFIX_CB ∧ rest = []) ∨
      ∃ b0 b1 b2, i = decodeBytes b0 b1 b2 ∧ bytes = b0 :: [b1, b2].take (bytesAfter b0) ++ rest := by
  cases bytes with
  | nil => cases h
  | cons b0 tail =>
    unfold decode at h
    dsimp only at h
    split at h
    case isTrue hcb =>
      obtain ⟨rfl, rfl⟩ := hcb
      cases h
      exact .inl ⟨rfl, rfl, rfl⟩
    case isFalse hcb =>
      right
      split at h <;> cases h
      case h_1 hlen => exact ⟨b0, 0, 0, rfl, by rw [hlen]; rfl⟩
      case h_2 b1 hlen => exact ⟨b0, b1, 0, rfl, by rw [hlen]; rfl⟩
      case h_3 b1 b2 hlen => exact ⟨b0, b1, b2, rfl, by rw [hlen]; rfl⟩

/-- Settles O52: by what the decoder has read, the CB byte alone or an opcode byte and the bytes that opcode takes. -/
theorem encodeOfDecode : Obligations.EncodeOfDecode := by
  unfold Obligations.EncodeOfDecode
  intro bytes rest i h
  obtain ⟨rfl, rfl, rfl⟩ | ⟨b0, b1, b2, rfl, rfl⟩ := decode_cases h
  · exact ⟨rfl, rfl, by decide, by decide⟩
  · rw [encode_decodeBytes]
    exact ⟨decodeBytes_wf b0 b1 b2, rfl, by simp, Nat.succ_le_succ (List.length_take_le' _ _)⟩

/-! ### The CB byte alone (R115, R135, R335) -/

/-- A bus read does not look at where the machine stands in an instruction. -/
theorem State.busRead_withControl (s : State) (l : Latches) (p : Phase) (a : Word) :
    ({ s with latch := l, phase := p } : State).busRead a =
      ((s.busRead a).1, { (s.busRead a).2 with latch := l, phase := p }) := by
  have h : ({ s with latch := l, phase := p } : State).place a = s.place a := State.place_congr rfl rfl rfl rfl a
  unfold State.busRead
  rw [h]
  split <;> rfl

/-- R136: with no table entry selected yet, the byte read selects one of the CB table. -/
theorem fetchSecond_current {s : State} (h : s.latch.current = none) :
    (fetchSecond s).latch.current = some (.cb (s.busRead s.regs.pc).1) := by
  unfold fetchSecond
  dsimp only
  rw [State.fetch8_latch, h]
  rfl

theorem fetchSecond_pc (s : State) : (fetchSecond s).regs.pc = s.regs.pc + 1 := by
  change s.fetch8.2.regs.pc = _
  rw [State.fetch8_regs]

/-- Settles O33: the CB byte leaves no table entry selected, so the next byte read selects the CB table's. -/
theorem prefixByte : Obligations.PrefixByte := by
  unfold Obligations.PrefixByte
  refine ⟨rfl, fun s => ⟨rfl, fun b => ⟨rfl, ?_⟩⟩⟩
  rintro rfl t ⟨⟩
  refine ⟨?_, fetchSecond_pc _⟩
  rw [fetchSecond_current rfl]
  dsimp only
  rw [State.busRead_withControl]

/-! ### Undefined opcodes and sample words (R101, R111 to R113, R157, R337) -/

/-- Settles O34: the decoder answers the byte itself, whose meaning is the fault of R337. -/
theorem undefinedOpcodeFaults : Obligations.UndefinedOpcodeFaults := by
  unfold Obligations.UndefinedOpcodeFaults
  exact fun op hop => ⟨decode_undefined [] hop, fun s => rfl⟩

/-- Settles O50: each word is evaluated. -/
theorem sampleWordsDecode : Obligations.SampleWordsDecode := by
  unfold Obligations.SampleWordsDecode
  exact ⟨rfl, rfl, rfl, rfl, rfl, rfl, rfl, rfl, rfl, rfl, rfl, rfl, rfl⟩

end Sys2Proof.Machine
end

section
/-! O57: the micro-op lists of R119 and R121 give the meanings. Each shared meaning `f` is compared with its list once, by running
the list (`f_runs`); the decoder's rows and the rows of the lists are then gone through side by side. -/

namespace Sys2Proof.Machine

/-! ### A byte in the 16-bit context (R140) -/

@[simp] theorem loByte_zext16 (v : Byte) : loByte (zext16 v) = v := by
  unfold loByte zext16
  ext i hi
  rw [BitVec.getElem_extractLsb', Nat.zero_add, BitVec.getLsbD_setWidth, BitVec.getLsbD_eq_getElem hi]
  simp [show i < 16 by omega]

@[simp] theorem loByte_sext16 (e : Byte) : loByte (sext16 e) = e := by
  unfold loByte sext16
  ext i hi
  rw [BitVec.getElem_extractLsb', Nat.zero_add, BitVec.getLsbD_signExtend, BitVec.getLsbD_eq_getElem hi]
  simp [hi, show i < 16 by omega]

/-- R23, R141 `ClearZ`: the flags are all in the half of F that a write keeps. -/
@[simp] theorem clearZ_maskF (v : Byte) : clearZ (maskF v) = clearZ v := by
  simp [clearZ, maskF, flagN, flagH, flagC]

section Runs

variable (o : Operands) (s : State)

/-! ### Running a list (R138, R142) -/

theorem runOps_load_operand (x : Operand8) (rest : List MicroOp) (ctx : Word) :
    runOps o (.load (srcOf x) :: rest) ctx s = runOps o rest (zext16 (s.read8 x).1) (s.read8 x).2 := by
  cases x <;> rfl

theorem runOps_store_operand (x : Operand8) (rest : List MicroOp) (ctx : Word) :
    runOps o (.store (dstOf x) :: rest) ctx s = runOps o rest ctx (s.write8 x (loByte ctx)) := by
  cases x <;> rfl

/-- R142: a condition that fails ends the list, one that holds does nothing. -/
theorem runOps_proceedIf (cc : Cond) (rest : List MicroOp) (ctx : Word) :
    runOps o (.proceedIf cc :: rest) ctx s = if s.cond cc then runOps o rest ctx s else s := by
  change (if !s.cond cc then s else runOps o rest ctx s) = _
  cases s.cond cc <;> rfl

/-- R302, R305, R307, R309: a meaning under a condition is its list under the condition. -/
theorem conditional_runs {r : Result} {ops : List MicroOp} (cc : Cond) (h : r = done (runOps o ops 0 s)) :
    (if s.cond cc then r else done s) = done (runOps o (.proceedIf cc :: ops) 0 s) := by
  rw [runOps_proceedIf, h]
  cases s.cond cc <;> rfl

/-! ### Loads and stores (R170 to R189, R201 to R206) -/

theorem moveReg_runs (d r : Reg8) : moveReg d r s = done (runOps o [.load (.reg r), .store (.reg d)] 0 s) := by
  change _ = done (s.setR8 d (loByte (zext16 (s.r8 r))))
  rw [loByte_zext16]
  rfl

theorem loadImm8_runs (d : Reg8) : loadImm8 d o.b0 s = done (runOps o [.load .d8, .store (.reg d)] 0 s) := by
  change _ = done (s.setR8 d (loByte (zext16 o.b0)))
  rw [loByte_zext16]
  rfl

theorem loadFromHL_runs (d : Reg8) :
    loadFromHL d s = done (runOps o [.load (.mem .hl), .store (.reg d)] 0 s) := by
  change _ = done ((s.busRead s.hl).2.setR8 d (loByte (zext16 (s.busRead s.hl).1)))
  rw [loByte_zext16]
  rfl

theorem storeToHL_runs (r : Reg8) :
    storeToHL (s.r8 r) s = done (runOps o [.load (.reg r), .store (.mem .hl)] 0 s) := by
  change _ = done (s.busWrite s.hl (loByte (zext16 (s.r8 r))))
  rw [loByte_zext16]
  rfl

theorem storeImmToHL_runs : storeToHL o.b0 s = done (runOps o [.load .d8, .store (.mem .hl)] 0 s) := by
  change _ = done (s.busWrite s.hl (loByte (zext16 o.b0)))
  rw [loByte_zext16]
  rfl

/-- A memory operand but `(HL+)` and `(HL-)`, which R156 tests. -/
theorem loadA_runs {m : MemArg} (hm : m ≠ .hlStep) :
    loadA (m.form o) s = done (runOps o [.load (.mem m), .store (.reg .A)] 0 s) := by
  have hrun : runOps o [.load (.mem m), .store (.reg .A)] 0 s =
      (s.busRead (s.addrOf (m.form o))).2.setR8 .A (loByte (zext16 (s.busRead (s.addrOf (m.form o))).1)) := by
    cases m with
    | hlStep => exact absurd rfl hm
    | _ => rfl
  rw [hrun, loByte_zext16]
  rfl

theorem storeA_runs {m : MemArg} (hm : m ≠ .hlStep) :
    storeA (m.form o) s = done (runOps o [.load (.reg .A), .store (.mem m)] 0 s) := by
  have hrun : runOps o [.load (.reg .A), .store (.mem m)] 0 s =
      s.busWrite (s.addrOf (m.form o)) (loByte (zext16 s.regs.a)) := by
    cases m with
    | hlStep => exact absurd rfl hm
    | _ => rfl
  rw [hrun, loByte_zext16]
  rfl

/-- R186 to R189: `step` is the micro-op that moves HL by `delta`. -/
theorem loadAPost_runs {step : MicroOp} {delta : Word}
    (hstep : ∀ ctx t, runOps o [step] ctx t = t.setR16 .HL (t.hl + delta)) :
    loadAPost delta s = done (runOps o [.load (.mem .hlStep), .store (.reg .A), step] 0 s) := by
  let c := s.oamCheck .ldHl s.hl
  change _ = done (runOps o [step] _ ((c.busRead c.hl).2.setR8 .A (loByte (zext16 (c.busRead c.hl).1))))
  rw [hstep, loByte_zext16]
  rfl

theorem storeAPost_runs {step : MicroOp} {delta : Word}
    (hstep : ∀ ctx t, runOps o [step] ctx t = t.setR16 .HL (t.hl + delta)) :
    storeAPost delta s = done (runOps o [.load (.reg .A), .store (.mem .hlStep), step] 0 s) := by
  let c := s.oamCheck .ldHl s.hl
  change _ = done (runOps o [step] _ (c.busWrite c.hl (loByte (zext16 s.regs.a))))
  rw [hstep, loByte_zext16, ← State.oamCheck_regs s .ldHl s.hl]
  rfl

theorem runOps_incHL (ctx : Word) (t : State) : runOps o [.incHL] ctx t = t.setR16 .HL (t.hl + 1) := rfl

theorem runOps_decHL (ctx : Word) (t : State) : runOps o [.decHL] ctx t = t.setR16 .HL (t.hl + -1) := by
  rw [← BitVec.sub_eq_add_neg]
  rfl

theorem loadImm16_runs (r : Reg16) : loadImm16 r o.word s = done (runOps o [.load .d16, .store (.pair r)] 0 s) := rfl

theorem storeSP_runs : execLD__a16__SP o.word s =
    done (runOps o [.load (.pair .SP), .store .a16Lo, .store .a16Hi] 0 s) := by
  change done ((s.busWrite o.word (loByte s.regs.sp)).busWrite (o.word + 1) (hiByte s.regs.sp)) = _
  rfl

/-- R66: the high byte first. -/
theorem runOps_push (rest : List MicroOp) (ctx : Word) :
    runOps o (.pushHi :: .pushLo :: rest) ctx s = runOps o rest ctx (s.push16 ctx) := by
  have hi : ∀ ops t, runOps o (.pushHi :: ops) ctx t = runOps o ops ctx (t.pushByte .push1 (hiByte ctx)) := fun _ _ => rfl
  have lo : ∀ ops t, runOps o (.pushLo :: ops) ctx t = runOps o ops ctx (t.pushByte .push2 (loByte ctx)) := fun _ _ => rfl
  rw [hi, lo]
  rfl

theorem pushPair_runs (r : StackPair) :
    pushPair r s = done (runOps o [.extraCycle, .load (.stackPair r), .pushHi, .pushLo] 0 s) := by
  change _ = done (runOps o [.pushHi, .pushLo] (s.pair r) s)
  rw [runOps_push]
  rfl

/-- R66, R67: the first byte popped waits in the context's low half for the second. -/
theorem runOps_pop (rest : List MicroOp) (ctx : Word) :
    runOps o (.popLo :: .popHi :: rest) ctx s = runOps o rest s.pop16.1 s.pop16.2 := by
  change runOps o rest (pairOf _ (loByte (zext16 (s.popByte .pop1).1))) s.pop16.2 = _
  rw [loByte_zext16]
  rfl

theorem popPair_runs (r : StackPair) :
    popPair r s = done (runOps o [.popLo, .popHi, .store (.stackPair r)] 0 s) := by
  rw [runOps_pop]
  rfl

/-! ### Arithmetic, rotates and bits (R220 to R237, R260 to R286) -/

/-- R220: an ALU operation on A and the byte in the context, stored to A. -/
theorem runOps_acc (op : AluOp) (v : Byte) :
    runOps o [.alu2 (.acc op) (.reg .A), .store (.reg .A)] (zext16 v) s = s.setAF (alu op s.regs.f s.regs.a v) := by
  change (s.setF (alu op s.regs.f (loByte (zext16 s.regs.a)) (loByte (zext16 v))).f).setR8 .A
    (loByte (zext16 (alu op s.regs.f (loByte (zext16 s.regs.a)) (loByte (zext16 v))).val)) = _
  simp only [loByte_zext16]
  rfl

theorem aluOn_runs (op : AluOp) (x : Operand8) : aluOn op x s =
    done (runOps o [.load (srcOf x), .alu2 (.acc op) (.reg .A), .store (.reg .A)] 0 s) := by
  rw [runOps_load_operand, runOps_acc]
  rfl

theorem aluOnImm_runs (op : AluOp) : aluOnImm op o.b0 s =
    done (runOps o [.load .d8, .alu2 (.acc op) (.reg .A), .store (.reg .A)] 0 s) :=
  congrArg done (runOps_acc o s op o.b0).symm

/-- R141 `Alu1`, R229 to R233, R275 to R283: a function of one operand whose result is stored back to it, with its flags. -/
theorem runOps_alu1_operand {f : Fn1} {out : Byte → Byte → AluOut} (x : Operand8)
    (hf : ∀ ctx rest t, runOps o (.alu1 f :: rest) ctx t =
      runOps o rest (zext16 (out t.regs.f (loByte ctx)).val) (t.setF (out t.regs.f (loByte ctx)).f)) :
    runOps o [.load (srcOf x), .alu1 f, .store (dstOf x)] 0 s =
      ((s.read8 x).2.setF (out (s.read8 x).2.regs.f (s.read8 x).1).f).write8 x
        (out (s.read8 x).2.regs.f (s.read8 x).1).val := by
  rw [runOps_load_operand, hf, runOps_store_operand]
  simp only [loByte_zext16]
  rfl

theorem increment8_runs (x : Operand8) :
    increment8 x s = done (runOps o [.load (srcOf x), .alu1 .inc, .store (dstOf x)] 0 s) :=
  congrArg done (runOps_alu1_operand o s x fun _ _ _ => rfl).symm

theorem decrement8_runs (x : Operand8) :
    decrement8 x s = done (runOps o [.load (srcOf x), .alu1 .dec, .store (dstOf x)] 0 s) :=
  congrArg done (runOps_alu1_operand o s x fun _ _ _ => rfl).symm

theorem rotate_runs (op : RotOp) (x : Operand8) :
    rotate op x s = done (runOps o [.load (srcOf x), .alu1 (.rotate op), .store (dstOf x)] 0 s) :=
  congrArg done (runOps_alu1_operand o s x fun _ _ _ => rfl).symm

theorem daa_runs : execDAA s = done (runOps o [.load (.reg .A), .alu1 .daa, .store (.reg .A)] 0 s) :=
  congrArg done (runOps_alu1_operand o s (.reg .A) fun _ _ _ => rfl).symm

theorem cpl_runs : execCPL s = done (runOps o [.load (.reg .A), .alu1 .cpl, .store (.reg .A)] 0 s) :=
  congrArg done (runOps_alu1_operand o s (.reg .A) fun _ _ _ => rfl).symm

/-- R270 to R274: `ClearZ` works on the flags the rotate has written. -/
theorem rotateA_runs (op : RotOp) : rotateA op s =
    done (runOps o [.load (.reg .A), .alu1 (.rotate op), .clearZ, .store (.reg .A)] 0 s) := by
  let r := rot op s.regs.f (loByte (zext16 s.regs.a))
  change _ = done (((s.setF r.f).setF (clearZ (maskF r.f))).setR8 .A (loByte (zext16 r.val)))
  simp only [clearZ_maskF, loByte_zext16, r]
  rfl

theorem testBit_runs (n : Fin 8) (x : Operand8) : testBit n x s =
    done (runOps o (if x = .atHL then [.bitHL n] else [.load (srcOf x), .alu3 .bit n]) 0 s) := by
  cases x with
  | atHL => rfl
  | reg r =>
    change _ = done (s.setF (bitF n s.regs.f (loByte (zext16 (s.r8 r)))))
    rw [loByte_zext16]
    rfl

/-- R141 `Alu3`, R285, R286: a function of a bit number and one operand whose result is stored back to it. -/
theorem runOps_alu3_operand {f : Fn3} {n : Fin 8} {out : Byte → Byte} (x : Operand8)
    (hf : ∀ ctx rest t, runOps o (.alu3 f n :: rest) ctx t = runOps o rest (zext16 (out (loByte ctx))) t) :
    runOps o [.load (srcOf x), .alu3 f n, .store (dstOf x)] 0 s = (s.read8 x).2.write8 x (out (s.read8 x).1) := by
  rw [runOps_load_operand, hf, runOps_store_operand, loByte_zext16, loByte_zext16]
  rfl

theorem clearBit_runs (n : Fin 8) (x : Operand8) :
    clearBit n x s = done (runOps o [.load (srcOf x), .alu3 .res n, .store (dstOf x)] 0 s) :=
  congrArg done (runOps_alu3_operand o s x fun _ _ _ => rfl).symm

theorem raiseBit_runs (n : Fin 8) (x : Operand8) :
    raiseBit n x s = done (runOps o [.load (srcOf x), .alu3 .set n, .store (dstOf x)] 0 s) :=
  congrArg done (runOps_alu3_operand o s x fun _ _ _ => rfl).symm

theorem addToHL_runs (r : Reg16) : addToHL r s =
    done (runOps o [.extraCycle, .load (.pair r), .alu2 .addHL (.pair .HL), .store (.pair .HL)] 0 s) := by
  change done ((s.setF (addHLF s.regs.f s.hl (s.r16 r))).setR16 .HL (s.hl + s.r16 r)) = _
  rfl

theorem increment16_runs (r : Reg16) : increment16 r s =
    done (runOps o [.extraCycle, .load (.pair r), .alu1 .inc16, .store (.pair r)] 0 s) := by
  let c := s.oamCheck .incDec (s.r16 r)
  change done (c.setR16 r (c.r16 r + 1)) = done (c.setR16 r (s.r16 r + 1))
  rw [State.r16_congr (State.oamCheck_regs s _ _)]

theorem decrement16_runs (r : Reg16) : decrement16 r s =
    done (runOps o [.extraCycle, .load (.pair r), .alu1 .dec16, .store (.pair r)] 0 s) := by
  let c := s.oamCheck .incDec (s.r16 r)
  change done (c.setR16 r (c.r16 r - 1)) = done (c.setR16 r (s.r16 r - 1))
  rw [State.r16_congr (State.oamCheck_regs s _ _)]

/-- R204, R263: the flags come from the operand byte itself. -/
theorem runOps_addSP (dst : Reg16) :
    runOps o [.load (.pair .SP), .alu2 .addSP .r8, .store (.pair dst)] 0 s =
      (s.setF (addSPF s.regs.sp o.b0)).setR16 dst (s.regs.sp + sext16 o.b0) := by
  change (s.setF (addSPF s.regs.sp (loByte (sext16 o.b0)))).setR16 dst (s.regs.sp + sext16 o.b0) = _
  rw [loByte_sext16]

theorem addSP_runs : execADD_SP_r8 o.b0 s =
    done (runOps o [.extraCycle, .extraCycle, .load (.pair .SP), .alu2 .addSP .r8, .store (.pair .SP)] 0 s) :=
  congrArg done (runOps_addSP o s .SP).symm

theorem loadHLSP_runs : execLD_HL_SP_r8 o.b0 s =
    done (runOps o [.extraCycle, .load (.pair .SP), .alu2 .addSP .r8, .store (.pair .HL)] 0 s) :=
  congrArg done (runOps_addSP o s .HL).symm

/-! ### Control transfers (R300 to R311) -/

theorem jumpTo_runs : jumpTo o.word s = done (runOps o jumpOps 0 s) := rfl

theorem jumpBy_runs : jumpBy o.b0 s = done (runOps o jumpByOps 0 s) := rfl

/-- R306, R311: `target` is the source of the address called, an operand or a constant. -/
theorem callTo_runs {target : Src} {a : Word}
    (htarget : ∀ ctx t, runOps o [.load target, .store .pc] ctx t = t.setPc a) :
    callTo a s = done (runOps o (callOps target) 0 s) := by
  change _ = done (runOps o [.pushHi, .pushLo, .load target, .store .pc] s.regs.pc s)
  rw [runOps_push, htarget]
  rfl

theorem returnTo_runs : returnTo s = done (runOps o returnOps 0 s) := by
  rw [returnOps, runOps_pop]
  rfl

theorem returnFromInterrupt_runs :
    returnFromInterrupt s = done (runOps o (returnOps ++ [.switchInterrupts true false]) 0 s) := by
  rw [returnOps, List.cons_append, List.cons_append, runOps_pop]
  rfl

theorem jumpByIf_runs (cc : Cond) : jumpByIf cc o.b0 s = done (runOps o (.proceedIf cc :: jumpByOps) 0 s) :=
  conditional_runs o s cc (jumpBy_runs o s)

theorem jumpIf_runs (cc : Cond) : jumpIf cc o.word s = done (runOps o (.proceedIf cc :: jumpOps) 0 s) :=
  conditional_runs o s cc (jumpTo_runs o s)

theorem callIf_runs (cc : Cond) : callIf cc o.word s = done (runOps o (.proceedIf cc :: callOps .a16) 0 s) :=
  conditional_runs o s cc (callTo_runs o s fun _ _ => rfl)

theorem returnIf_runs (cc : Cond) :
    returnIf cc s = done (runOps o (.extraCycle :: .proceedIf cc :: returnOps) 0 s) :=
  conditional_runs o s cc (returnTo_runs o s)

end Runs

/-! ### The rows of the tables side by side (R102, R111, R112, R121) -/

/-- R102: the four quarters of a table. -/
theorem fieldX_cases (op : Byte) : fieldX op = 0 ∨ fieldX op = 1 ∨ fieldX op = 2 ∨ fieldX op = 3 := by
  have := op.isLt
  unfold fieldX
  omega

theorem fieldP_eq (op : Byte) : fieldP op = fieldY op / 2 := by
  unfold fieldP fieldY
  omega

theorem fieldQ_eq (op : Byte) : fieldQ op = fieldY op % 2 := by
  unfold fieldQ fieldY
  omega

theorem fieldY_lt (op : Byte) : fieldY op < 8 := Nat.mod_lt _ (by decide)

theorem fieldZ_lt (op : Byte) : fieldZ op < 8 := Nat.mod_lt _ (by decide)

/-- R102: the opcode byte with its fields named. -/
theorem eq_opByte {op : Byte} {x y z : Nat} (hx : fieldX op = x) (hy : fieldY op = y) (hz : fieldZ op = z) :
    op = opByte x y z := by
  subst hx hy hz
  exact opByte_fields op

/-- R104: of the eight codes only 6 is `(HL)`. -/
theorem operand8_atHL : ∀ n < 8, operand8 n = .atHL → n = 6 := by decide

section Rows

variable (b1 b2 : Byte) (s : State)

/-- R111, `x = 0`: all but STOP. -/
theorem decodeX0_runs {op : Byte} (hstop : ¬(fieldY op = 2 ∧ fieldZ op = 0)) :
    exec (decodeX0 op b1 (pairOf b2 b1)) s =
      done (runOps { b0 := b1, b1 := b2 } (opsX0 (fieldY op) (fieldZ op)) 0 s) := by
  have hy := fieldY_lt op
  have hz := fieldZ_lt op
  unfold decodeX0
  rw [fieldP_eq, fieldQ_eq]
  generalize fieldY op = y at hstop hy ⊢
  generalize fieldZ op = z at hstop hz ⊢
  interval_cases z <;> simp only [opsX0]
  · -- `z = 0`: NOP, LD (a16),SP, JR
    by_cases hcond : 4 ≤ y
    · interval_cases y <;> exact (exec_jrCond _ b1 s).trans (jumpByIf_runs ⟨b1, b2⟩ s _)
    · interval_cases y
      · rfl
      · exact storeSP_runs ⟨b1, b2⟩ s
      · exact absurd ⟨rfl, rfl⟩ hstop
      · exact jumpBy_runs ⟨b1, b2⟩ s
  · -- `z = 1`: LD rp,d16 and ADD HL,rp
    split
    · exact (exec_ldImm16 _ _ s).trans (loadImm16_runs ⟨b1, b2⟩ s _)
    · exact (exec_addHL _ s).trans (addToHL_runs _ s _)
  · -- `z = 2`: A to and from memory
    interval_cases y
    · exact storeA_runs _ s (m := .bc) nofun
    · exact loadA_runs _ s (m := .bc) nofun
    · exact storeA_runs _ s (m := .de) nofun
    · exact loadA_runs _ s (m := .de) nofun
    · exact storeAPost_runs _ s (runOps_incHL _)
    · exact loadAPost_runs _ s (runOps_incHL _)
    · exact storeAPost_runs _ s (runOps_decHL _)
    · exact loadAPost_runs _ s (runOps_decHL _)
  · -- `z = 3`: INC rp and DEC rp
    split
    · exact (exec_inc16 _ s).trans (increment16_runs _ s _)
    · exact (exec_dec16 _ s).trans (decrement16_runs _ s _)
  · -- `z = 4`: INC
    exact (exec_inc8 _ s).trans (increment8_runs _ s _)
  · -- `z = 5`: DEC
    exact (exec_dec8 _ s).trans (decrement8_runs _ s _)
  · -- `z = 6`: LD r,d8 and LD (HL),d8
    cases operand8 y with
    | reg d => exact (exec_ldImm d b1 s).trans (loadImm8_runs ⟨b1, b2⟩ s d)
    | atHL => exact storeImmToHL_runs ⟨b1, b2⟩ s
  · -- `z = 7`: rotates of A, DAA, CPL, SCF, CCF
    interval_cases y
    · exact rotateA_runs _ s .rlc
    · exact rotateA_runs _ s .rrc
    · exact rotateA_runs _ s .rl
    · exact rotateA_runs _ s .rr
    · exact daa_runs _ s
    · exact cpl_runs _ s
    · rfl
    · rfl

/-- R111, `x = 1`: all but HALT. -/
theorem decodeX1_runs {op : Byte} (hx : fieldX op = 1) (hhalt : op ≠ 0x76) :
    exec (decodeX1 op) s = done (runOps { b0 := b1, b1 := b2 }
      [.load (srcOf (operand8 (fieldZ op))), .store (dstOf (operand8 (fieldY op)))] 0 s) := by
  unfold decodeX1
  cases hy : operand8 (fieldY op) with
  | reg d =>
    cases hz : operand8 (fieldZ op) with
    | reg r => exact (exec_ldReg d r s).trans (moveReg_runs _ s d r)
    | atHL => exact (exec_ldFromHL d s).trans (loadFromHL_runs _ s d)
  | atHL =>
    cases hz : operand8 (fieldZ op) with
    | reg r => exact (exec_ldToHL r s).trans (storeToHL_runs _ s r)
    | atHL =>
      exact absurd (eq_opByte hx (operand8_atHL _ (fieldY_lt op) hy) (operand8_atHL _ (fieldZ_lt op) hz)) hhalt

/-- R111, `x = 3`: all but the CB byte and the undefined opcodes. -/
theorem decodeX3_runs {op : Byte} (hx : fieldX op = 3) (hdef : undefinedOpcodes.contains op = false) (hcb : op ≠ 0xCB) :
    exec (decodeX3 op b1 (pairOf b2 b1)) s =
      done (runOps { b0 := b1, b1 := b2 } (opsX3 (fieldY op) (fieldZ op)) 0 s) := by
  have hy := fieldY_lt op
  have hz := fieldZ_lt op
  rw [eq_opByte hx rfl rfl] at hdef hcb
  unfold decodeX3
  rw [fieldP_eq, fieldQ_eq]
  generalize fieldY op = y at hdef hcb hy ⊢
  generalize fieldZ op = z at hdef hcb hz ⊢
  interval_cases z <;> simp only [opsX3]
  · -- `z = 0`: RET cc, A to and from page 0xFF00, SP plus r8
    by_cases hcond : y < 4
    · interval_cases y <;> exact (exec_retCond _ s).trans (returnIf_runs _ s _)
    · interval_cases y
      · exact storeA_runs ⟨b1, b2⟩ s (m := .a8) nofun
      · exact addSP_runs ⟨b1, b2⟩ s
      · exact loadA_runs ⟨b1, b2⟩ s (m := .a8) nofun
      · exact loadHLSP_runs ⟨b1, b2⟩ s
  · -- `z = 1`: POP, RET, RETI, JP (HL), LD SP,HL
    split
    · obtain rfl | rfl | rfl | rfl : y = 0 ∨ y = 2 ∨ y = 4 ∨ y = 6 := by omega
      all_goals exact (exec_pop _ s).trans (popPair_runs _ s _)
    · obtain rfl | rfl | rfl | rfl : y = 1 ∨ y = 3 ∨ y = 5 ∨ y = 7 := by omega
      · exact returnTo_runs _ s
      · exact returnFromInterrupt_runs _ s
      · rfl
      · rfl
  · -- `z = 2`: JP cc, A to and from memory
    by_cases hcond : y < 4
    · interval_cases y <;> exact (exec_jpCond _ _ s).trans (jumpIf_runs ⟨b1, b2⟩ s _)
    · interval_cases y
      · exact storeA_runs ⟨b1, b2⟩ s (m := .c) nofun
      · exact storeA_runs ⟨b1, b2⟩ s (m := .a16) nofun
      · exact loadA_runs ⟨b1, b2⟩ s (m := .c) nofun
      · exact loadA_runs ⟨b1, b2⟩ s (m := .a16) nofun
  · -- `z = 3`: JP, DI, EI
    by_cases hgap : 2 ≤ y ∧ y < 6
    · obtain ⟨hlow, hhigh⟩ := hgap
      interval_cases y <;> exact absurd hdef (by decide)
    · obtain rfl | rfl | rfl | rfl : y = 0 ∨ y = 1 ∨ y = 6 ∨ y = 7 := by omega
      · exact jumpTo_runs ⟨b1, b2⟩ s
      · exact absurd rfl hcb
      · rfl
      · rfl
  · -- `z = 4`: CALL cc
    split
    · interval_cases y <;> exact (exec_callCond _ _ s).trans (callIf_runs ⟨b1, b2⟩ s _)
    · interval_cases y <;> exact absurd hdef (by decide)
  · -- `z = 5`: PUSH and CALL
    split
    · exact (exec_push _ s).trans (pushPair_runs _ s _)
    · obtain rfl | rfl | rfl | rfl : y = 1 ∨ y = 3 ∨ y = 5 ∨ y = 7 := by omega
      · exact callTo_runs ⟨b1, b2⟩ s fun _ _ => rfl
      all_goals exact absurd hdef (by decide)
  · -- `z = 6`: ALU operations on d8
    exact (exec_aluImm _ b1 s).trans (aluOnImm_runs ⟨b1, b2⟩ s _)
  · -- `z = 7`: RST
    refine (exec_rst _ s).trans (callTo_runs _ s fun _ _ => ?_)
    simp only [fin8, Nat.mod_eq_of_lt hy]
    rfl

/-- R112. -/
theorem decodeCB_runs (o : Operands) (op : Byte) : exec (decodeCB op) s = done (runOps o (cbOps op) 0 s) := by
  unfold decodeCB cbOps
  obtain hx | hx | hx | hx := fieldX_cases op <;> simp only [hx]
  · exact (exec_rot _ _ s).trans (rotate_runs o s _ _)
  · exact (exec_bitOp _ _ s).trans (testBit_runs o s _ _)
  · exact (exec_resOp _ _ s).trans (clearBit_runs o s _ _)
  · exact (exec_setOp _ _ s).trans (raiseBit_runs o s _ _)

/-- R111: the quarters of the primary table. -/
theorem decodePrimary_runs {op : Byte} (hdef : undefinedOpcodes.contains op = false)
    (hspecial : op ∉ ([0x10, 0x76] : List Byte)) (hcb : op ≠ 0xCB) :
    exec (decodePrimary op b1 b2) s = done (runOps { b0 := b1, b1 := b2 } (primaryOps op) 0 s) := by
  obtain ⟨hstop, hhalt⟩ : op ≠ 0x10 ∧ op ≠ 0x76 := by simpa using hspecial
  unfold decodePrimary primaryOps
  obtain hx | hx | hx | hx := fieldX_cases op <;> simp only [hx]
  · exact decodeX0_runs b1 b2 s fun ⟨hy, hz⟩ => hstop (eq_opByte hx hy hz)
  · rw [if_neg hhalt]
    exact decodeX1_runs b1 b2 s hx hhalt
  · exact (exec_alu _ _ s).trans (aluOn_runs _ s _ _)
  · exact decodeX3_runs b1 b2 s hx hdef hcb

end Rows

/-- Settles O57: by the table of the opcode. -/
theorem microOpsGiveTheMeaning : Obligations.MicroOpsGiveTheMeaning := by
  unfold Obligations.MicroOpsGiveTheMeaning
  intro b0 b1 b2 s hdef hspecial
  unfold decodeBytes
  split
  · exact decodeCB_runs s _ b1
  · exact decodePrimary_runs b1 b2 s hdef hspecial ‹_›

end Sys2Proof.Machine
end

section
/-! O48, O60, O43: the OAM check's trigger, the tick divider, and the states in which the CPU waits. -/

namespace Sys2Proof.Machine

/-! ### The OAM check (R155, R156) -/

/-- R155, R156: what the OAM check tests, as the rules state it. -/
theorem oamTrigger_iff (s : State) (v : Word) : (inOamPage v && s.oamWindow) = true ↔
    0xFE00 ≤ v.toNat ∧ v.toNat ≤ 0xFEFF ∧ s.cfg.oamBugEnabled = true ∧ s.ppu.lcdEnabled = true ∧
      s.ppu.mode = .oamSearch ∧ s.ppu.lineTick < 80 := by
  simp only [inOamPage, State.oamWindow, Bool.and_eq_true, decide_eq_true_eq, and_assoc]

/-- R84, D14: on either bus the event is sent. -/
theorem State.oamCheck_events {s : State} {v : Word} (h : (inOamPage v && s.oamWindow) = true) (ty : OamType) :
    (s.oamCheck ty v).events = s.events ++ [.oamCorrupt ty] := by
  rw [State.oamCheck, if_pos h]
  cases s.cfg.bus with
  | flat => rfl
  | gameBoy => exact (State.oamFree_events _ 160).trans (s.emit_events _)

/-- Settles O48: by the test of R155 and R156; the rest are the frame lemmas of the check. -/
theorem oamCheckTrigger : Obligations.OamCheckTrigger := by
  unfold Obligations.OamCheckTrigger
  intro s ty v
  dsimp only
  rw [← oamTrigger_iff]
  exact ⟨fun h => State.oamCheck_events h ty, fun h => if_neg h, s.oamCheck_regs ty v, s.oamCheck_ic ty v,
    s.oamCheck_phase ty v, fun w k hk => s.oamCheck_read w ty v k hk⟩

/-! ### The divider (R130) -/

/-- Settles O60: the two sides of R130's test. -/
theorem tickDivider : Obligations.TickDivider := by
  unfold Obligations.TickDivider
  exact fun s => ⟨fun h => if_neg (Nat.not_le_of_lt h), fun h => if_pos h⟩

/-! ### Waiting (R132 to R134, R153) -/

/-- The OAM DMA copies the same bytes wherever the machine stands in an instruction. -/
theorem State.dmaCopy_withControl (s : State) (l : Latches) (p : Phase) (base k : Nat) :
    ({ s with latch := l, phase := p } : State).dmaCopy base k = { s.dmaCopy base k with latch := l, phase := p } := by
  induction k with
  | zero => rfl
  | succ k ih => simp only [State.dmaCopy, ih, State.dmaSource, State.busRead_withControl]

theorem State.dmaAdvance_withControl (s : State) (l : Latches) (p : Phase) (n : Nat) :
    ({ s with latch := l, phase := p } : State).dmaAdvance n = { s.dmaAdvance n with latch := l, phase := p } := by
  unfold State.dmaAdvance
  dsimp only
  split
  · rfl
  · split
    · exact State.dmaCopy_withControl { s with dma := none } l p _ _
    · rfl

theorem State.dmaAdvance_withPhase (s : State) (p : Phase) (n : Nat) :
    ({ s with phase := p } : State).dmaAdvance n = { s.dmaAdvance n with phase := p } := by
  refine (s.dmaAdvance_withControl s.latch p n).trans ?_
  rw [← s.dmaAdvance_latch n]

/-- R132 to R134: no interrupt is accepted, and the state does not end by itself. -/
theorem substep_waiting {s : State} (ha : s.ic.accepts = false)
    (hw : s.phase = .stopped ∨ s.phase = .halted ∧ s.ic.requested = false) : substep s = .next s := by
  obtain hp | ⟨hp, hr⟩ := hw
  · simp [substep, ha, irqSubstep, hp]
  · simp [substep, ha, irqSubstep, hp, hr]

/-- R133, R153: a request ends `Halted` in the same sub-step. -/
theorem substep_waking {s : State} (ha : s.ic.accepts = false) (hp : s.phase = .halted) (hr : s.ic.requested = true) :
    substep s = substep { s with phase := .opcode } := by
  simp [substep, ha, irqSubstep, hp, hr]

/-- R11, R130: the ticks before an M-cycle's last and the last are all of it. -/
theorem State.dmaAdvance_mCycle (s : State) (sp : Speed) :
    (s.dmaAdvance (sp.ticksPerCycle - 1)).dmaAdvance 1 = s.dmaAdvance sp.ticksPerCycle := by
  rw [State.dmaAdvance_add, Nat.sub_add_cancel sp.ticksPerCycle_pos]

theorem timedStep_waiting {s : State} (hidle : s.phase.idle = true) (ha : s.ic.accepts = false)
    (hw : s.phase = .stopped ∨ s.phase = .halted ∧ s.ic.requested = false) :
    timedStep s = .next (s.dmaAdvance s.speed.ticksPerCycle) := by
  have hm : mCycle s = .next (s.dmaAdvance s.speed.ticksPerCycle) := by
    rw [mCycle, substep_waiting (by simpa using ha) (by simpa using hw)]
    exact congrArg Host.Outcome.next (s.dmaAdvance_mCycle s.speed)
  have hms : mCycles mCycleFuel s = .next (s.dmaAdvance s.speed.ticksPerCycle) := by
    rw [mCycleFuel, mCycles, hm]
    simp [hidle]
  rw [timedStep, hms, ← s.dmaAdvance_latch s.speed.ticksPerCycle]

theorem cpuStep_waiting {s : State} (ha : s.ic.accepts = false)
    (hw : s.phase = .stopped ∨ s.phase = .halted ∧ s.ic.requested = false) : cpuStep s = .next s := by
  obtain hp | ⟨hp, hr⟩ := hw
  · simp [cpuStep, ha, hp]
  · simp [cpuStep, ha, hp, hr]

/-- R133, R134: a step of waiting is one M-cycle for the OAM DMA. -/
theorem step_waiting {s : State} (ha : s.ic.accepts = false)
    (hw : s.phase = .stopped ∨ s.phase = .halted ∧ s.ic.requested = false) :
    step s = .next (s.dmaAdvance s.speed.ticksPerCycle) := by
  have hidle : s.phase.idle = true := by
    obtain hp | ⟨hp, -⟩ := hw <;> rw [hp] <;> rfl
  obtain ⟨hd, e, -⟩ | e := step_cases hidle
  · rw [e, cpuStep_waiting ha hw, s.dmaAdvance_idle _ hd]
  · rw [e, timedStep_waiting hidle ha hw]

/-- R133, R153: waking costs no sub-step of its own, with an OAM DMA in progress or not. -/
theorem step_waking {s : State} (ha : s.ic.accepts = false) (hp : s.phase = .halted) (hr : s.ic.requested = true) :
    step s = step { s with phase := .opcode } := by
  have hcpu : cpuStep s = cpuStep { s with phase := .opcode } := by simp [cpuStep, ha, hp, hr]
  have hmc : mCycle s = mCycle { s with phase := .opcode } := by
    have hsub : ∀ n, substep (s.dmaAdvance n) = substep (State.dmaAdvance { s with phase := .opcode } n) := fun n =>
      (substep_waking (by simpa using ha) (by simpa using hp) (by simpa using hr)).trans
        (congrArg substep (s.dmaAdvance_withPhase .opcode n).symm)
    rw [mCycle, hsub]
    rfl
  have htimed : timedStep s = timedStep { s with phase := .opcode } := by
    unfold timedStep mCycleFuel mCycles
    rw [hmc]
  have hidle : s.phase.idle = true := by rw [hp]; rfl
  rw [step, if_pos hidle, step, if_pos (by rfl)]
  unfold boundaryStep
  rw [hcpu, htimed]

/-- Settles O43: waiting and waking are each a step of their own. -/
theorem waitingAndWaking : Obligations.WaitingAndWaking := by
  unfold Obligations.WaitingAndWaking
  exact fun s ha => ⟨fun hp hr => step_waiting ha (.inr ⟨hp, hr⟩), fun hp hr => step_waking ha hp hr,
    fun hp => step_waiting ha (.inl hp), fun hd n => s.dmaAdvance_idle n hd⟩

end Sys2Proof.Machine
end

section
/-! O38 and O35: what a fetch reads, and the one thing that stops a step. A fault comes only from the opcode fetch of a sub-step
at a boundary: inside an instruction or a dispatch every sub-step completes. -/

namespace Sys2Proof.Machine

/-! ### The bytes fetched and the state after them (R27, R103, R135 to R137, R151) -/

theorem State.fetchOpcode_byte (s : State) : s.fetchOpcode.1 = (s.busRead s.regs.pc).1 := by
  unfold State.fetchOpcode
  dsimp only
  split <;> rfl

/-- The opcode fetch reaches pc, the halt-bug flag and, where the read uses one, the free values. -/
theorem State.fetchOpcode_frame (s : State) : s.fetchOpcode.2 =
    { s with regs := s.fetchOpcode.2.regs, haltBug := false, draws := s.fetchOpcode.2.draws } := by
  unfold State.fetchOpcode
  dsimp only
  obtain h | h := s.busRead_frame s.regs.pc <;> rw [h] <;> split <;> simp_all [State.setPc]

theorem State.fetch8_frame (s : State) : s.fetch8.2 = { s with regs := s.fetch8.2.regs, draws := s.fetch8.2.draws } := by
  unfold State.fetch8
  dsimp only
  obtain h | h := s.busRead_frame s.regs.pc <;> rw [h] <;> rfl

theorem State.fetch_b0 (s : State) : s.fetch.b0 = (s.busRead s.regs.pc).1 := by
  rw [← s.fetchOpcode_byte]
  unfold State.fetch
  dsimp only
  split <;> rfl

/-- A byte read after the opcode keeps the frame of a fetch. -/
theorem State.fetch8_fetchFrame {s u : State} (h : u = { s with regs := u.regs, haltBug := false, draws := u.draws }) :
    u.fetch8.2 = { s with regs := u.fetch8.2.regs, haltBug := false, draws := u.fetch8.2.draws } := by
  refine u.fetch8_frame.trans ?_
  generalize u.fetch8.2 = w
  rw [h]

theorem State.fetch_frame (s : State) :
    s.fetch.st = { s with regs := s.fetch.st.regs, haltBug := false, draws := s.fetch.st.draws } := by
  unfold State.fetch
  dsimp only
  split
  · exact s.fetchOpcode_frame
  · exact State.fetch8_fetchFrame s.fetchOpcode_frame
  · exact State.fetch8_fetchFrame (State.fetch8_fetchFrame s.fetchOpcode_frame)

/-- R103, R137: an opcode that takes operand bytes has the first one read right after it. -/
theorem State.fetch_b1 {s : State} (h : 1 ≤ bytesAfter s.fetch.b0) : s.fetch.b1 = s.fetchOpcode.2.fetch8.1 := by
  rw [State.fetch_b0, ← State.fetchOpcode_byte] at h
  unfold State.fetch
  dsimp only
  split
  · omega
  · rfl
  · rfl

theorem State.fetch_b2 {s : State} (h : 2 ≤ bytesAfter s.fetch.b0) :
    s.fetch.b2 = s.fetchOpcode.2.fetch8.2.fetch8.1 := by
  rw [State.fetch_b0, ← State.fetchOpcode_byte] at h
  unfold State.fetch
  dsimp only
  split
  · omega
  · omega
  · rfl

/-! ### A step between instructions (R148) -/

theorem cpuStep_opcode {s : State} (hp : s.phase = .opcode) (ha : s.ic.accepts = false) :
    cpuStep s = instructionStep s := by
  simp [cpuStep, ha, hp]

/-- Settles O38: the instruction is the one `State.fetch` reads, byte by byte. -/
theorem stepRunsDecodedInstruction : Obligations.StepRunsDecodedInstruction := by
  unfold Obligations.StepRunsDecodedInstruction
  intro s hp ha hd
  have hcpu := cpuStep_opcode hp ha
  have hidle : s.phase.idle = true := by rw [hp]; rfl
  have hpc1 : s.fetchOpcode.2.regs = { s.regs with pc := s.regs.pc + (if s.haltBug then 0 else 1) } := by
    rw [State.fetchOpcode_regs]
    cases s.haltBug <;> simp
  have hpc2 : s.fetchOpcode.2.fetch8.2.regs = { s.regs with pc := s.regs.pc + (if s.haltBug then 1 else 2) } := by
    rw [State.fetch8_regs, hpc1]
    cases s.haltBug <;> simp [BitVec.add_assoc]
  refine ⟨_, s.fetch.b0, s.fetch.b1, s.fetch.b2, s.fetch.st, rfl, fun hnoDma => ?_, s.fetch_b0, s.fetch_regs, s.fetch_frame,
    fun h1 => ⟨s.fetchOpcode.2, hpc1, s.fetchOpcode_frame, State.fetch_b1 h1⟩,
    fun h2 => ⟨s.fetchOpcode.2.fetch8.2, hpc2, State.fetch8_fetchFrame s.fetchOpcode_frame, State.fetch_b2 h2⟩⟩
  exact (step_eq_cpuStep hidle hd (hcpu ▸ hnoDma)).trans hcpu

/-! ### What completes (R120, R157) -/

/-- The outcome is a next state. -/
def Completes (r : Result) : Prop := ∃ t, r = .next t

theorem execHALT_completes (s : State) : Completes (execHALT s) := by
  unfold execHALT
  split <;> exact ⟨_, rfl⟩

theorem execSTOP_completes (pad : Byte) (s : State) : Completes (execSTOP pad s) := by
  unfold execSTOP
  split <;> exact ⟨_, rfl⟩

/-- R157, R337: every instruction but an undefined opcode. -/
theorem exec_completes {i : Instr} (hi : ∀ op, i ≠ .UNDEFINED op) (s : State) : Completes (exec i s) := by
  cases hspecial : Instr.special i with
  | false =>
    obtain ⟨u, hu, -⟩ := exec_ordinary i s hspecial
    exact ⟨_, hu⟩
  | true =>
    obtain rfl | rfl | rfl | rfl | rfl | ⟨pad, rfl⟩ | ⟨op, rfl⟩ := Instr.special_cases hspecial
    · exact ⟨_, rfl⟩
    · exact ⟨_, rfl⟩
    · exact ⟨_, rfl⟩
    · exact execHALT_completes s
    · exact ⟨_, rfl⟩
    · exact execSTOP_completes pad s
    · exact absurd rfl (hi op)

/-- R131 step 5: past the opcode's fetch the loop runs to its end. -/
theorem engineLoop_completes {fuel : Nat} {accessed : Bool} {s : State} (hs : s.phase ≠ .opcode) :
    Completes (engineLoop fuel accessed s) := by
  induction fuel generalizing accessed s with
  | zero => exact ⟨s, rfl⟩
  | succ fuel ih =>
    unfold engineLoop
    cases hp : s.phase with
    | opcode => exact absurd hp hs
    | extOpcode =>
      dsimp only
      split
      · exact ⟨s, rfl⟩
      · exact ih nofun
    | operand =>
      dsimp only
      split
      · split
        · exact ⟨s, rfl⟩
        · exact ih (s.fetch8_phase.trans_ne hs)
      · exact ih nofun
    | running =>
      dsimp only
      split
      · exact execSTOP_completes _ s
      · split
        · exact execHALT_completes s
        · split
          · exact ⟨_, rfl⟩
          · split
            · exact ⟨s, rfl⟩
            · split
              · exact ⟨_, rfl⟩
              · split
                · exact ⟨_, rfl⟩
                · exact ih ((runMicroOp_phase _ s).trans_ne hs)
    | _ => exact ⟨s, rfl⟩

theorem substep_completes {s : State} (hs : s.phase.idle = false) : Completes (substep s) := by
  cases hp : s.phase with
  | opcode | halted | stopped =>
    rw [hp] at hs
    cases hs
  | extOpcode | operand | running =>
    have hloop : substep s = engineLoop loopFuel false s := by simp [substep, hp, Phase.idle, irqSubstep]
    rw [hloop]
    exact engineLoop_completes (by simp [hp])
  | irqReadIF | irqReadIE | irqPush1 | irqPush2 | irqJump => simp [Completes, substep, hp, Phase.idle, irqSubstep]

theorem mCycle_completes {s : State} (hs : s.phase.idle = false) : Completes (mCycle s) := by
  obtain ⟨t, ht⟩ := substep_completes (s := s.dmaAdvance (s.speed.ticksPerCycle - 1)) (by rwa [State.dmaAdvance_phase])
  exact ⟨t.dmaAdvance 1, by rw [mCycle, ht]⟩

/-- After an M-cycle that completes the others stay inside the instruction or the dispatch, up to the boundary. -/
theorem mCycles_completes (n : Nat) {s : State} (hs : Completes (mCycle s)) : Completes (mCycles n s) := by
  induction n generalizing s with
  | zero => exact ⟨s, rfl⟩
  | succ n ih =>
    obtain ⟨t, ht⟩ := hs
    rw [mCycles, ht]
    dsimp only
    split
    · exact ⟨t, rfl⟩
    · rename_i hbusy
      exact ih (mCycle_completes (Bool.eq_false_of_not_eq_true hbusy))

/-! ### What stops (R135, R157, R337) -/

/-- The outcome is the fault of an undefined opcode, the byte at pc in `s`, with pc as an opcode fetch from `s` leaves it. -/
def StopsAtUndefined (s : State) (r : Result) : Prop :=
  ∃ op pc, r = .fault (.undefinedOpcode op pc) ∧ undefinedOpcodes.contains op = true ∧ op = (s.busRead s.regs.pc).1 ∧
    pc = (if s.haltBug then s.regs.pc else s.regs.pc + 1)

/-- R135: an opcode fetch answers a state inside an instruction, or stops. -/
theorem fetchState_completes_or_stops (s : State) :
    (∃ t, fetchState s = .next t ∧ t.phase ≠ .opcode) ∨ StopsAtUndefined s (fetchState s) := by
  unfold fetchState
  dsimp only
  split
  · rename_i hop
    exact .inr ⟨_, _, rfl, hop, s.fetchOpcode_byte, by rw [State.fetchOpcode_regs]⟩
  · split
    · exact .inl ⟨_, rfl, nofun⟩
    · split <;> exact .inl ⟨_, rfl, nofun⟩

/-- R131: a loop that begins at an opcode stops at its fetch or not at all. -/
theorem engineLoop_completes_or_stops (fuel : Nat) (accessed : Bool) {s : State} (hp : s.phase = .opcode) :
    Completes (engineLoop fuel accessed s) ∨ StopsAtUndefined s (engineLoop fuel accessed s) := by
  cases fuel with
  | zero => exact .inl ⟨s, rfl⟩
  | succ fuel =>
    unfold engineLoop
    rw [hp]
    dsimp only
    obtain ⟨t, ht, htp⟩ | ⟨op, pc, hf, h⟩ := fetchState_completes_or_stops s
    · rw [ht]
      exact .inl (engineLoop_completes htp)
    · rw [hf]
      exact .inr ⟨op, pc, rfl, h⟩

theorem StopsAtUndefined.ofPhase {s : State} {p : Phase} {r : Result} (h : StopsAtUndefined { s with phase := p } r) :
    StopsAtUndefined s r := by
  obtain ⟨op, pc, hr, hop, hbyte, hpc⟩ := h
  have hread := congrArg Prod.fst (s.busRead_withControl s.latch p s.regs.pc)
  exact ⟨op, pc, hr, hop, hbyte.trans hread, hpc⟩

/-- R131 to R135: a sub-step at a boundary begins a dispatch, waits or fetches an opcode. -/
theorem substep_completes_or_stops {s : State} (hs : s.phase.idle = true) :
    Completes (substep s) ∨ StopsAtUndefined s (substep s) := by
  cases ha : s.ic.accepts with
  | true =>
    refine .inl ⟨irqReadIF (acceptInterrupt s), ?_⟩
    simp [substep, hs, ha, irqSubstep, acceptInterrupt_phase]
  | false =>
    have hfetch : ∀ u : State, u.phase = .opcode → u.ic.accepts = false →
        Completes (substep u) ∨ StopsAtUndefined u (substep u) := by
      intro u hu hua
      have hloop : substep u = engineLoop loopFuel false u := by simp [substep, hu, hua, irqSubstep]
      rw [hloop]
      exact engineLoop_completes_or_stops loopFuel false hu
    cases hp : s.phase with
    | opcode => exact hfetch s hp ha
    | halted =>
      cases hr : s.ic.requested with
      | true =>
        rw [substep_waking ha hp hr]
        exact (hfetch { s with phase := .opcode } rfl ha).imp_right .ofPhase
      | false => exact .inl ⟨s, substep_waiting ha (.inr ⟨hp, hr⟩)⟩
    | stopped => exact .inl ⟨s, substep_waiting ha (.inl hp)⟩
    | _ =>
      rw [hp] at hs
      cases hs

/-- R148 with an OAM DMA: only the first M-cycle of a step fetches an opcode, after the DMA's ticks before its last. -/
theorem timedStep_completes_or_stops {s : State} (hs : s.phase.idle = true) : Completes (timedStep s) ∨
    StopsAtUndefined (s.dmaAdvance (s.speed.ticksPerCycle - 1)) (timedStep s) := by
  have hsub := substep_completes_or_stops (s := s.dmaAdvance (s.speed.ticksPerCycle - 1)) (by rwa [State.dmaAdvance_phase])
  obtain ⟨t, ht⟩ | ⟨op, pc, hf, h⟩ := hsub
  · obtain ⟨u, hu⟩ := mCycles_completes mCycleFuel (s := s) ⟨t.dmaAdvance 1, by rw [mCycle, ht]⟩
    exact .inl ⟨{ u with latch := s.latch }, by rw [timedStep, hu]⟩
  · refine .inr ⟨op, pc, ?_, h⟩
    rw [timedStep, mCycleFuel, mCycles, mCycle, hf]

/-- R113: the bytes that decode to an undefined opcode are one of the eleven, alone. -/
theorem decodeBytes_undefined {b0 b1 b2 op : Byte} (h : decodeBytes b0 b1 b2 = .UNDEFINED op) :
    op = b0 ∧ bytesAfter b0 = 0 ∧ undefinedOpcodes.contains b0 = true := by
  have hwf := decodeBytes_wf b0 b1 b2
  have henc := encode_decodeBytes b0 b1 b2
  rw [h] at hwf henc
  obtain ⟨rfl, hnone⟩ : op = b0 ∧ [] = [b1, b2].take (bytesAfter b0) := List.cons.inj henc
  refine ⟨rfl, ?_, hwf⟩
  cases hlen : bytesAfter op with
  | zero => rfl
  | succ n =>
    rw [hlen] at hnone
    cases hnone

/-- R135 to R139 at once: an instruction completes, or is an undefined opcode. -/
theorem instructionStep_completes_or_stops (s : State) :
    Completes (instructionStep s) ∨ StopsAtUndefined s (instructionStep s) := by
  by_cases hdef : ∃ op, decodeBytes s.fetch.b0 s.fetch.b1 s.fetch.b2 = .UNDEFINED op
  · obtain ⟨op, hop⟩ := hdef
    obtain ⟨rfl, hlen, hbyte⟩ := decodeBytes_undefined hop
    refine .inr ⟨s.fetch.b0, s.fetch.st.regs.pc, ?_, hbyte, s.fetch_b0, ?_⟩
    · rw [instructionStep, hop]
      rfl
    · rw [State.fetch_regs, hlen]
      cases s.haltBug <;> simp
  · exact .inl (exec_completes (fun op hop => hdef ⟨op, hop⟩) s.fetch.st)

theorem cpuStep_completes_or_stops {s : State} (hs : s.phase.idle = true) :
    Completes (cpuStep s) ∨ StopsAtUndefined s (cpuStep s) := by
  obtain ⟨-, e⟩ | ⟨-, -, e⟩ | ⟨-, -, -, e⟩ | ⟨-, -, e⟩ := cpuStep_cases hs <;> rw [e]
  · exact .inl ⟨_, rfl⟩
  · exact instructionStep_completes_or_stops s
  · exact (instructionStep_completes_or_stops { s with phase := .opcode }).imp_right .ofPhase
  · exact .inl ⟨_, rfl⟩

theorem step_completes_or_stops {s : State} (hs : s.phase.idle = true) :
    Completes (step s) ∨ StopsAtUndefined (s.dmaAdvance (s.speed.ticksPerCycle - 1)) (step s) := by
  obtain ⟨hd, e, -⟩ | e := step_cases hs <;> rw [e]
  · rw [s.dmaAdvance_idle _ hd]
    exact cpuStep_completes_or_stops hs
  · exact timedStep_completes_or_stops hs

/-- Settles O35: an instruction by its constructor, a step by the two ways it is taken. -/
theorem onlyUndefinedOpcodesStop : Obligations.OnlyUndefinedOpcodesStop := by
  unfold Obligations.OnlyUndefinedOpcodesStop
  refine ⟨fun i s hi => exec_completes hi s, fun s hs => (step_completes_or_stops hs).imp_right fun h => ?_⟩
  simpa only [StopsAtUndefined, State.dmaAdvance_regs, State.dmaAdvance_haltBug] using h

end Sys2Proof.Machine
end

section
/-! O1 to O5: the 8-bit loads and stores. Each shared meaning of Machine/Load8.lean is shown once to complete with its
value and its frame (`f_completes`); the instructions of R170 then cite it. -/

namespace Sys2Proof.Machine

/-! ### Loads (R171 to R173, R176 to R184) -/

/-- R171 to R173: an instruction that ends by writing `v` to `d`, in a state that has done no more than use free values. -/
theorem setR8_completes {s u : State} (hu : u = { s with draws := u.draws }) (d : Reg8) (v : Byte) :
    ∃ t, done (u.setR8 d v) = .next t ∧ t.r8 d = v ∧ (∀ q, q ≠ d → t.r8 q = s.r8 q) ∧ SameFSpPc s t ∧ QuietFrame s t := by
  have hregs : u.regs = s.regs := by rw [hu]
  refine ⟨(u.setR8 d v).instructionFinished, rfl, ?_, fun q hq => ?_, ?_, QuietFrame.of ?_⟩
  · exact (State.r8_congr rfl d).trans (u.r8_setR8_same d v)
  · calc (u.setR8 d v).instructionFinished.r8 q
      _ = (u.setR8 d v).r8 q := State.r8_congr rfl q
      _ = u.r8 q := u.r8_setR8_other d q v hq
      _ = s.r8 q := State.r8_congr hregs q
  · simp [SameFSpPc, hregs]
  · rw [State.setR8_eq, hu]

theorem loadA_completes (s : State) (m : MemForm) : ∃ t, loadA m s = .next t ∧
    t.regs = { s.regs with a := (s.busRead (s.addrOf m)).1 } ∧ QuietFrame s t := by
  refine ⟨_, rfl, ?_, QuietFrame.of ?_⟩
  · rw [State.busRead_draws]
    rfl
  · rw [State.busRead_draws]
    rfl

/-! ### Stores (R174, R175, R178 to R185) -/

/-- R174, R175, R178 to R185: an instruction whose one effect is a bus write. -/
theorem busWrite_completes {s : State} (w : s.mem.wf = true) (a : Word) (v : Byte) :
    ∃ t, done (s.busWrite a v) = .next t ∧ t.regs = s.regs ∧ StoreFrame s a v t :=
  ⟨_, rfl, s.busWrite_regs a v, StoreFrame.of w rfl⟩

theorem storeA_completes {s : State} (w : s.mem.wf = true) (m : MemForm) :
    ∃ t, storeA m s = .next t ∧ t.regs = s.regs ∧ StoreFrame s (s.addrOf m) s.regs.a t :=
  busWrite_completes w (s.addrOf m) s.regs.a

/-! ### The forms that step HL (R156, R186 to R189) -/

/-- A bus write reaches the interrupt controller as the address map says. -/
theorem State.busWrite_ic_congr {s t : State} {a : Word} (hp : t.place a = s.place a) (hic : t.ic = s.ic) (v : Byte) :
    (t.busWrite a v).ic = (s.busWrite a v).ic := by
  unfold State.busWrite
  rw [hp]
  split <;> simp [hic]

/-- R156: the check changes neither the address map nor the interrupt controller. -/
theorem State.oamCheck_busWrite_ic (s : State) (ty : OamType) (r a : Word) (v : Byte) :
    ((s.oamCheck ty r).busWrite a v).ic = (s.busWrite a v).ic :=
  State.busWrite_ic_congr (State.place_congr (by simp) (by simp) (by simp) (by simp) a) (by simp) v

/-- One byte of memory after a check and a bus write. -/
theorem State.oamCheck_busWrite_read {s : State} (w : s.mem.wf = true) (ty : OamType) (r a : Word) (v : Byte) (k : Nat) :
    ((s.oamCheck ty r).busWrite a v).mem.read k =
      if s.storeCell a = some k then v else (s.oamCheck ty r).mem.read k := by
  have hcell : (s.oamCheck ty r).storeCell a = s.storeCell a :=
    State.storeCell_congr (by simp) (by simp) (by simp) (by simp) a
  rw [State.busWrite_read _ (s.oamCheck_wf w ty r), hcell]

theorem State.hl_congr {s t : State} (h : t.regs = s.regs) : t.hl = s.hl := State.r16_congr h .HL

/-- R156: the check, the access and the step of HL all take the HL from before the instruction. -/
theorem storeAPost_eq (delta : Word) (s : State) : storeAPost delta s =
    done (((s.oamCheck .ldHl s.hl).busWrite s.hl s.regs.a).setR16 .HL (s.hl + delta)) := by
  have hl1 : (s.oamCheck .ldHl s.hl).hl = s.hl := State.hl_congr (by simp)
  have hl2 : ((s.oamCheck .ldHl s.hl).busWrite s.hl s.regs.a).hl = s.hl := State.hl_congr (by simp)
  simp only [storeAPost, State.oamCheck_regs, hl1, hl2]

theorem loadAPost_eq (delta : Word) (s : State) : loadAPost delta s =
    done ((((s.oamCheck .ldHl s.hl).busRead s.hl).2.setR8 .A ((s.oamCheck .ldHl s.hl).busRead s.hl).1).setR16 .HL
      (s.hl + delta)) := by
  have hl1 : (s.oamCheck .ldHl s.hl).hl = s.hl := State.hl_congr (by simp)
  have hl2 : ((s.oamCheck .ldHl s.hl).busRead s.hl).2.hl = s.hl := State.hl_congr (by simp)
  simp only [loadAPost, hl1, hl2]

theorem storeAPost_completes {s : State} (w : s.mem.wf = true) {delta hl : Word} (hhl : s.hl + delta = hl) :
    ∃ t, storeAPost delta s = .next t ∧ t.regs = { s.regs with h := hiByte hl, l := loByte hl } ∧
      SameInternal s t ∧ SameReach ((s.oamCheck .ldHl s.hl).busWrite s.hl s.regs.a) t ∧
      t.ic = (s.busWrite s.hl s.regs.a).ic.instructionFinished ∧
      (∀ k, s.storeCell s.hl = some k → t.mem.read k = s.regs.a) ∧
      ∀ k, s.storeCell s.hl ≠ some k → OamKept s s.hl k → t.mem.read k = s.mem.read k := by
  subst hhl
  have hread := State.oamCheck_busWrite_read w .ldHl s.hl s.hl s.regs.a
  refine ⟨_, storeAPost_eq delta s, ?_, ?_, ⟨rfl, rfl, rfl, rfl, rfl⟩, ?_, fun k hk => ?_, fun k hk hkept => ?_⟩
  · simp [State.setR16]
  · simp [SameInternal]
  · simp [State.oamCheck_busWrite_ic]
  · exact (hread k).trans (if_pos hk)
  · exact (hread k).trans ((if_neg hk).trans (s.oamCheck_kept w .ldHl s.hl hkept))

theorem loadAPost_completes {s : State} (w : s.mem.wf = true) {delta hl : Word} (hhl : s.hl + delta = hl) :
    ∃ t, loadAPost delta s = .next t ∧
      t.regs = { s.regs with a := ((s.oamCheck .ldHl s.hl).busRead s.hl).1, h := hiByte hl, l := loByte hl } ∧
      CheckFrame s .ldHl s.hl t := by
  subst hhl
  refine ⟨_, loadAPost_eq delta s, ?_, CheckFrame.of w ?_⟩
  · simp [State.setR16, State.setR8]
  · rw [State.busRead_draws]
    rfl

/-! ### Encodings and durations (R104, R111, R421) -/

theorem form_ldReg (d r : Reg8) : Form (Instr.ldReg d r) [opByte 1 d.code r.code] 1 := by
  cases d <;> cases r <;> exact Form.plain rfl (by decide)

theorem form_ldImm (d : Reg8) (n : Byte) : Form (Instr.ldImm (.reg d) n) [opByte 0 d.code 6, n] 2 := by
  cases d <;> exact Form.plain rfl (by decide)

theorem form_ldFromHL (d : Reg8) : Form (Instr.ldFromHL d) [opByte 1 d.code 6] 2 := by
  cases d <;> exact Form.plain rfl (by decide)

theorem form_ldToHL (r : Reg8) : Form (Instr.ldToHL r) [opByte 1 6 r.code] 2 := by
  cases r <;> exact Form.plain rfl (by decide)

/-! ### The obligations -/

/-- Settles O1: each of the three meanings ends by writing the register, LD r,(HL) after its bus read. -/
theorem loadIntoRegister : Obligations.LoadIntoRegister := by
  unfold Obligations.LoadIntoRegister
  refine fun d => ⟨form_ldReg d, form_ldImm d, form_ldFromHL d, fun s r n => ?_⟩
  simp only [List.forall_mem_cons, exec_ldReg, exec_ldImm, exec_ldFromHL]
  exact ⟨setR8_completes (u := s) rfl d (s.r8 r), setR8_completes (u := s) rfl d n,
    setR8_completes (s.busRead_draws s.hl) d (s.busRead s.hl).1, List.forall_mem_nil _⟩

/-- Settles O2: both are the one bus write at HL. -/
theorem storeAtHL : Obligations.StoreAtHL := by
  unfold Obligations.StoreAtHL
  refine ⟨fun r => ⟨form_ldToHL r, fun s w => ?_⟩, fun n => ⟨Form.plain rfl (by decide), fun s w => ?_⟩⟩
  · rw [exec_ldToHL]
    exact busWrite_completes w s.hl (s.r8 r)
  · exact busWrite_completes w s.hl n

/-- Settles O3: the five are `loadA` at their memory operands. -/
theorem loadAccumulator : Obligations.LoadAccumulator := by
  unfold Obligations.LoadAccumulator
  refine fun nn a => ⟨⟨Form.plain rfl (by decide), Form.plain rfl (by decide), Form.word .LD_A__a16 rfl (by decide),
    Form.plain rfl (by decide), Form.plain rfl (by decide)⟩, fun s => ?_⟩
  simp only [List.forall_mem_cons]
  exact ⟨loadA_completes s .atBC, loadA_completes s .atDE, loadA_completes s (.atA16 nn), loadA_completes s (.atA8 a),
    loadA_completes s .atC, List.forall_mem_nil _⟩

/-- Settles O4: the five are `storeA` at their memory operands. -/
theorem storeAccumulator : Obligations.StoreAccumulator := by
  unfold Obligations.StoreAccumulator
  refine fun nn a => ⟨⟨Form.plain rfl (by decide), Form.plain rfl (by decide), Form.word .LD__a16__A rfl (by decide),
    Form.plain rfl (by decide), Form.plain rfl (by decide)⟩, fun s w => ?_⟩
  simp only [List.forall_mem_cons]
  exact ⟨storeA_completes w .atBC, storeA_completes w .atDE, storeA_completes w (.atA16 nn), storeA_completes w (.atA8 a),
    storeA_completes w .atC, List.forall_mem_nil _⟩

/-- Settles O5: HL steps by 1 or by -1, which is a subtraction of 1 modulo 65536. -/
theorem accumulatorAndStepHL : Obligations.AccumulatorAndStepHL := by
  unfold Obligations.AccumulatorAndStepHL
  refine ⟨Form.plain rfl (by decide), Form.plain rfl (by decide), Form.plain rfl (by decide), Form.plain rfl (by decide),
    fun s w => ?_⟩
  have hdec : s.hl + -1 = s.hl - 1 := (BitVec.sub_eq_add_neg s.hl 1).symm
  simp only [List.forall_mem_cons]
  exact ⟨⟨storeAPost_completes w rfl, storeAPost_completes w hdec, List.forall_mem_nil _⟩,
    loadAPost_completes w rfl, loadAPost_completes w hdec, List.forall_mem_nil _⟩

end Sys2Proof.Machine
end

section
/-! O6 to O10: the 16-bit loads, the store of SP and the stack. Each meaning of Machine/Load16.lean is shown to complete with
its registers and its frame; ADD SP,r8 (R263) is the meaning of LD HL,SP+r8 (R204) with another destination. -/

namespace Sys2Proof.Machine

/-! ### Loads of a pair (R201, R203) -/

@[simp] theorem State.setR16_regs_a (s : State) (r : Reg16) (v : Word) : (s.setR16 r v).regs.a = s.regs.a := by
  cases r <;> rfl

/-- R21: the pairs share no register. -/
theorem State.r16_setR16_other (s : State) (r q : Reg16) (v : Word) (h : q ≠ r) : (s.setR16 r v).r16 q = s.r16 q := by
  cases r with
  | BC => cases q with | BC => exact absurd rfl h | _ => rfl
  | DE => cases q with | DE => exact absurd rfl h | _ => rfl
  | HL => cases q with | HL => exact absurd rfl h | _ => rfl
  | SP => cases q with | SP => exact absurd rfl h | _ => rfl

theorem loadImm16_completes (r : Reg16) (nn : Word) (s : State) : ∃ t, loadImm16 r nn s = .next t ∧
    t.r16 r = nn ∧ (∀ q, q ≠ r → t.r16 q = s.r16 q) ∧
    t.regs.a = s.regs.a ∧ t.regs.f = s.regs.f ∧ t.regs.pc = s.regs.pc ∧ QuietFrame s t := by
  have hr16 : ∀ q, (s.setR16 r nn).instructionFinished.r16 q = (s.setR16 r nn).r16 q := State.r16_congr rfl
  refine ⟨(s.setR16 r nn).instructionFinished, rfl, ?_, fun q hq => ?_, ?_, ?_, ?_, QuietFrame.of ?_⟩
  · exact (hr16 r).trans (s.r16_setR16_same r nn)
  · exact (hr16 q).trans (s.r16_setR16_other r q nn hq)
  · exact s.setR16_regs_a r nn
  · exact s.setR16_regs_f r nn
  · exact s.setR16_regs_pc r nn
  · rw [State.setR16_eq]

/-! ### The store of SP (R63, R202) -/

/-- One byte of memory after two bus writes; the first one may have moved the cell of the second (R72). -/
theorem State.busWrite_busWrite_read {s : State} (w : s.mem.wf = true) (a b : Word) (x y : Byte) (k : Nat) :
    ((s.busWrite a x).busWrite b y).mem.read k =
      if (s.busWrite a x).storeCell b = some k then y else if s.storeCell a = some k then x else s.mem.read k := by
  rw [State.busWrite_read _ (s.busWrite_wf w a x), State.busWrite_read s w]

/-! ### SP plus a signed displacement (R204, R263) -/

/-- R10: sign extension of a byte, as an unsigned number. -/
theorem sext16_eq_ofNat (e : Byte) :
    sext16 e = if e.toNat < 128 then BitVec.ofNat 16 e.toNat else BitVec.ofNat 16 (e.toNat + 0xFF00) := by
  have he := e.isLt
  apply BitVec.eq_of_toNat_eq
  rw [sext16, BitVec.toNat_signExtend, BitVec.msb_eq_decide, BitVec.toNat_setWidth]
  by_cases h : e.toNat < 128
  · simp [h]
  · simp [h, Nat.le_of_not_lt h]
    omega

theorem add_sext16 (w : Word) (e : Byte) : w + sext16 e =
    if e.toNat < 128 then w + BitVec.ofNat 16 e.toNat else w + BitVec.ofNat 16 (e.toNat + 0xFF00) := by
  rw [sext16_eq_ofNat]
  split <;> rfl

theorem flagsAre_packF (z n h c : Bool) : FlagsAre (packF z n h c) z n h c :=
  ⟨flagZ_packF z n h c, flagN_packF z n h c, flagH_packF z n h c, flagC_packF z n h c,
    maskF_packF z n h c ▸ maskF_low (packF z n h c)⟩

/-- R204, R263: SP plus the displacement, to HL or to SP. -/
theorem offsetSp_completes (s : State) (e : Byte) (dst : Reg16) {v : Word} (hv : s.regs.sp + sext16 e = v) :
    ∃ t, done ((s.setF (addSPF s.regs.sp e)).setR16 dst (s.regs.sp + sext16 e)) = .next t ∧
      t.regs = { (s.setR16 dst v).regs with f := t.regs.f } ∧
      FlagsAre t.regs.f false false (decide (s.regs.sp.toNat % 16 + e.toNat % 16 > 0x0F))
        (decide (s.regs.sp.toNat % 256 + e.toNat > 0xFF)) ∧ QuietFrame s t := by
  subst hv
  refine ⟨_, rfl, ?_, ?_, QuietFrame.of ?_⟩
  · cases dst <;> rfl
  · rw [State.instructionFinished_regs, State.setR16_regs_f, State.setF_regs_f, addSPF, maskF_packF]
    exact flagsAre_packF false false _ _
  · rw [State.setR16_eq]
    rfl

/-! ### The stack (R66, R67, R205, R206) -/

theorem pushPair_completes {s : State} (w : s.mem.wf = true) (r : StackPair) :
    ∃ t, pushPair r s = .next t ∧ t.regs = { s.regs with sp := s.regs.sp - 2 } ∧ PushFrame s (s.pair r) t :=
  ⟨_, rfl, s.push16_regs (s.pair r), PushFrame.of w rfl⟩

/-- A write of a pair looks at the registers only. -/
theorem State.setPair_regs_congr {s t : State} (h : t.regs = s.regs) (r : StackPair) (v : Word) :
    (t.setPair r v).regs = (s.setPair r v).regs := by
  cases r <;> simp [State.setPair, State.setR16, h]

theorem popPair_completes {s : State} (w : s.mem.wf = true) (r : StackPair) :
    ∃ t, popPair r s = .next t ∧
      t.regs = (State.setPair { s with regs := { s.regs with sp := s.regs.sp + 2 } } r (popReads s).1).regs ∧
      PopFrame s t ∧ t.ic = s.ic.instructionFinished := by
  have hval : s.pop16.1 = (popReads s).1 := by rw [State.pop16_eq]
  refine ⟨(s.pop16.2.setPair r s.pop16.1).instructionFinished, rfl, ?_, PopFrame.of w ?_, ?_⟩
  · rw [State.instructionFinished_regs, hval]
    exact State.setPair_regs_congr s.pop16_regs r _
  · rw [State.setPair_eq]
    rfl
  · simp

/-! ### Encodings and durations (R105, R111, R421) -/

theorem form_ldImm16 (r : Reg16) (nn : Word) :
    Form (Instr.ldImm16 r nn) [opByte 0 (2 * r.code) 1, loByte nn, hiByte nn] 3 := by
  cases r <;> exact Form.word (Instr.ldImm16 _) rfl (by decide)

theorem form_push (r : StackPair) : Form (Instr.push r) [opByte 3 (2 * r.code) 5] 4 := by
  cases r <;> exact Form.plain rfl (by decide)

theorem form_pop (r : StackPair) : Form (Instr.pop r) [opByte 3 (2 * r.code) 1] 3 := by
  cases r <;> exact Form.plain rfl (by decide)

/-! ### The obligations -/

/-- Settles O6: each writes one pair and does nothing else. -/
theorem loadPair : Obligations.LoadPair := by
  unfold Obligations.LoadPair
  refine ⟨fun r nn => ⟨form_ldImm16 r nn, fun s => ?_⟩, Form.plain rfl (by decide), fun s => ?_⟩
  · rw [exec_ldImm16]
    exact loadImm16_completes r nn s
  · exact ⟨_, rfl, rfl, QuietFrame.of (u := s.setSp s.hl) rfl⟩

/-- Settles O7: the two bus writes in their order, and the byte each leaves. -/
theorem storeStackPointer : Obligations.StoreStackPointer := by
  unfold Obligations.StoreStackPointer
  refine fun nn => ⟨Form.word .LD__a16__SP rfl (by decide), fun s w => ⟨_, rfl, ?_, ?_, ⟨rfl, rfl, rfl, rfl, rfl⟩, rfl,
    State.busWrite_busWrite_read w nn (nn + 1) _ _⟩⟩
  · simp
  · simp [SameInternal]

/-- Settles O8: both are SP plus the sign-extended displacement, with flags from the unsigned sum of the low bytes. -/
theorem stackPointerPlusOffset : Obligations.StackPointerPlusOffset := by
  unfold Obligations.StackPointerPlusOffset
  refine fun e => ⟨Form.plain rfl (by decide), Form.plain rfl (by decide), fun s => ?_⟩
  have hv := add_sext16 s.regs.sp e
  exact ⟨offsetSp_completes s e .HL hv, offsetSp_completes s e .SP hv⟩

/-! The two names are those of the model's shared meanings in the namespace above. -/

namespace Stack

/-- Settles O9: PUSH is the push of R66 and the end of the instruction. -/
theorem pushPair : Obligations.PushPair := by
  unfold Obligations.PushPair
  refine fun r => ⟨form_push r, fun s w => ?_⟩
  rw [exec_push]
  exact pushPair_completes w r

/-- Settles O10: POP is the pop of R67 and the write of the pair, which drops the low nibble of F (R23). -/
theorem popPair : Obligations.PopPair := by
  unfold Obligations.PopPair
  refine fun r => ⟨form_pop r, fun s w => ?_⟩
  obtain ⟨t, ht, hregs, hframe, hic⟩ := popPair_completes w r
  refine ⟨t, (exec_pop r s).trans ht, ?_, hframe, hic⟩
  cases r <;> exact hregs

end Stack

end Sys2Proof.Machine
end

section
/-! O12 to O19: the 8-bit arithmetic and logic. Every instruction of the family ends by writing an ALU result to A and F, to
an operand and F, or to F; each of these endings is shown once to complete with its registers and its frame. What the ALU
functions of Machine/Flags.lean compute is then a matter of numbers and bits. -/

namespace Sys2Proof.Machine

/-! ### How the instructions end (R220, R229 to R232) -/

/-- R220: an instruction that ends by writing A and F, in a state that has done no more than use free values. -/
theorem setAF_completes {s u : State} (hu : u = { s with draws := u.draws }) (o : AluOut) :
    ∃ t, done (u.setAF o) = .next t ∧ t.regs = { s.regs with a := o.val, f := maskF o.f } ∧ QuietFrame s t := by
  refine ⟨_, rfl, ?_, QuietFrame.of ?_⟩ <;> rw [hu] <;> rfl

theorem setF_completes (s : State) (f : Byte) :
    ∃ t, done (s.setF f) = .next t ∧ t.regs = { s.regs with f := maskF f } ∧ QuietFrame s t :=
  ⟨_, rfl, rfl, QuietFrame.of rfl⟩

/-! ### The eight operations on A, in every operand form (R104, R108, R220) -/

theorem form_alu (op : AluOp) (x : Operand8) :
    Form (Instr.alu op x) [opByte 2 op.code x.code] (if x = .atHL then 2 else 1) := by
  cases op <;> rcases x with (_ | _ | _ | _ | _ | _ | _) | _ <;> exact Form.plain rfl (by decide)

theorem form_aluImm (op : AluOp) (n : Byte) : Form (Instr.aluImm op n) [opByte 3 op.code 6, n] 2 := by
  cases op <;> exact Form.plain rfl (by decide)

theorem exec_alu_reg (op : AluOp) (r : Reg8) (s : State) :
    exec (Instr.alu op (.reg r)) s = exec (Instr.aluImm op (s.r8 r)) s := by
  rw [exec_alu, exec_aluImm]
  rfl

theorem exec_alu_atHL (op : AluOp) (s : State) :
    exec (Instr.alu op .atHL) s = exec (Instr.aluImm op (s.busRead s.hl).1) (s.busRead s.hl).2 := by
  rw [exec_alu, exec_aluImm]
  rfl

/-- Settles O12: on a register or on (HL) the operation is the one on the value read. -/
theorem aluOperandForms : Obligations.AluOperandForms := by
  unfold Obligations.AluOperandForms
  exact ⟨form_alu, form_aluImm, fun op s => ⟨fun r => exec_alu_reg op r s, exec_alu_atHL op s⟩⟩

/-- R22: the eight operations pack their flags, so F holds what they give. -/
@[simp] theorem maskF_alu (op : AluOp) (f a v : Byte) : maskF (alu op f a v).f = (alu op f a v).f := by
  cases op <;> exact maskF_packF _ _ _ _

theorem exec_aluImm_completes {s u : State} (hu : u = { s with draws := u.draws }) (op : AluOp) (v : Byte) :
    ∃ t, exec (Instr.aluImm op v) u = .next t ∧
      t.regs = { s.regs with a := (alu op s.regs.f s.regs.a v).val, f := (alu op s.regs.f s.regs.a v).f } ∧
      QuietFrame s t := by
  have hregs : u.regs = s.regs := by rw [hu]
  rw [exec_aluImm, aluOnImm, hregs, ← maskF_alu]
  exact setAF_completes hu _

/-- R220: what is shown of an operation on A for every operand value holds of it in every operand form. -/
theorem alu_everyForm (s : State) (op : AluOp) {P : Byte → State → Prop}
    (h : ∀ v t, t.regs = { s.regs with a := (alu op s.regs.f s.regs.a v).val, f := (alu op s.regs.f s.regs.a v).f } →
      QuietFrame s t → P v t) :
    (∀ x : Operand8, decode [opByte 2 op.code x.code] = .ok (Instr.alu op x, [])) ∧
    (∀ n : Byte, decode [opByte 3 op.code 6, n] = .ok (Instr.aluImm op n, [])) ∧
    (∀ r : Reg8, ∃ t, exec (Instr.alu op (.reg r)) s = .next t ∧ P (s.r8 r) t) ∧
    (∃ t, exec (Instr.alu op .atHL) s = .next t ∧ P (s.busRead s.hl).1 t) ∧
    ∀ n : Byte, ∃ t, exec (Instr.aluImm op n) s = .next t ∧ P n t := by
  have himm : ∀ {u : State}, u = { s with draws := u.draws } → ∀ v, ∃ t, exec (Instr.aluImm op v) u = .next t ∧ P v t := by
    intro u hu v
    obtain ⟨t, ht, hregs, hframe⟩ := exec_aluImm_completes hu op v
    exact ⟨t, ht, h v t hregs hframe⟩
  refine ⟨fun x => (form_alu op x).1, fun n => (form_aluImm op n).1, fun r => ?_, ?_, himm rfl⟩
  · rw [exec_alu_reg]
    exact himm rfl (s.r8 r)
  · rw [exec_alu_atHL]
    exact himm (s.busRead_draws s.hl) _

/-! ### Sums and differences (R221 to R224, R228) -/

theorem aluAdd_eq_aluAdc (a v : Byte) : aluAdd a v = aluAdc false a v := rfl

theorem flagsAre_aluAdc (c : Bool) (a v : Byte) :
    FlagsAre (aluAdc c a v).f (decide ((a.toNat + v.toNat + c.toNat) % 256 = 0)) false
      (decide (a.toNat % 16 + v.toNat % 16 + c.toNat > 0x0F)) (decide (a.toNat + v.toNat + c.toNat > 0xFF)) :=
  flagsAre_packF _ _ _ _

/-- Settles O13: ADD is ADC with no carry in. -/
theorem addWithCarry : Obligations.AddWithCarry := by
  unfold Obligations.AddWithCarry
  intro s p hp result
  refine alu_everyForm s p.1 fun v t hregs hframe => ?_
  simp only [List.mem_cons, List.not_mem_nil, or_false] at hp
  obtain rfl | rfl := hp
  · refine ⟨?_, ?_, hframe⟩ <;> rw [hregs]
    · rfl
    · exact flagsAre_aluAdc false _ _
  · refine ⟨?_, ?_, hframe⟩ <;> rw [hregs]
    · rfl
    · exact flagsAre_aluAdc _ _ _

theorem aluSbc_val (c : Bool) (a v : Byte) :
    (aluSbc c a v).val = BitVec.ofInt 8 ((a.toNat : Int) - v.toNat - c.toNat) := by
  have hc := c.toNat_le
  apply BitVec.eq_of_toNat_eq
  simp only [aluSbc, BitVec.toNat_ofNat, BitVec.toNat_ofInt]
  omega

theorem flagsAre_aluSbc (c : Bool) (a v : Byte) :
    FlagsAre (aluSbc c a v).f (decide (((a.toNat : Int) - v.toNat - c.toNat) % 256 = 0)) true
      (decide ((a.toNat % 16 : Int) < (v.toNat % 16 : Int) + c.toNat))
      (decide ((a.toNat : Int) - v.toNat - c.toNat < 0)) := by
  have hc := c.toNat_le
  have hz : ((a.toNat + 512 - v.toNat - c.toNat) % 256 == 0) =
      decide (((a.toNat : Int) - v.toNat - c.toNat) % 256 = 0) := by
    rw [Bool.eq_iff_iff, beq_iff_eq, decide_eq_true_iff]
    omega
  have hh : a.toNat % 16 < v.toNat % 16 + c.toNat ↔ (a.toNat % 16 : Int) < (v.toNat % 16 : Int) + c.toNat := by omega
  have hb : a.toNat < v.toNat + c.toNat ↔ (a.toNat : Int) - v.toNat - c.toNat < 0 := by omega
  simp only [aluSbc, hz, hh, hb]
  exact flagsAre_packF _ _ _ _

/-- The two differences are taken with different multiples of 256 added. -/
theorem aluSub_eq_aluSbc (a v : Byte) : aluSub a v = aluSbc false a v := by
  have hval : BitVec.ofNat 8 (a.toNat + 512 - v.toNat) = BitVec.ofNat 8 (a.toNat + 256 - v.toNat) := by
    apply BitVec.eq_of_toNat_eq
    simp only [BitVec.toNat_ofNat]
    omega
  have hmod : (a.toNat + 512 - v.toNat) % 256 = (a.toNat + 256 - v.toNat) % 256 := by omega
  simp only [aluSub, aluSbc, Bool.toNat_false, Nat.sub_zero, Nat.add_zero, hval, hmod]

/-- R223: the flags of SBC with a borrow in of 0. -/
theorem flagsAre_aluSub (a v : Byte) :
    FlagsAre (aluSub a v).f (decide (((a.toNat : Int) - v.toNat - 0) % 256 = 0)) true
      (decide ((a.toNat % 16 : Int) < (v.toNat % 16 : Int) + 0)) (decide ((a.toNat : Int) - v.toNat - 0 < 0)) := by
  rw [aluSub_eq_aluSbc]
  exact flagsAre_aluSbc false a v

/-- Settles O14: SUB is SBC with no borrow in, and CP is SUB without its result. -/
theorem subtractAndCompare : Obligations.SubtractAndCompare := by
  unfold Obligations.SubtractAndCompare
  intro s p hp result
  refine alu_everyForm s p.1 fun v t hregs hframe => ?_
  simp only [List.mem_cons, List.not_mem_nil, or_false] at hp
  obtain rfl | rfl | rfl := hp
  · refine ⟨?_, ?_, hframe⟩ <;> rw [hregs]
    · simp [alu, aluSub_eq_aluSbc, aluSbc_val]
    · exact flagsAre_aluSub _ v
  · refine ⟨?_, ?_, hframe⟩ <;> rw [hregs]
    · simp [alu, aluSbc_val]
    · exact flagsAre_aluSbc _ _ _
  · refine ⟨?_, ?_, hframe⟩ <;> rw [hregs]
    · rfl
    · exact flagsAre_aluSub _ v

/-! ### Bitwise logic (R225 to R227) -/

theorem flagsAre_bitwise (r : Byte) (h : Bool) : FlagsAre (packF (r == 0) false h false) (decide (r = 0)) false h false :=
  flagsAre_packF _ _ _ _

/-- Settles O15: the three operations act on each bit by itself. -/
theorem bitwiseLogic : Obligations.BitwiseLogic := by
  unfold Obligations.BitwiseLogic
  intro s p hp result
  refine alu_everyForm s p.1 fun v t hregs hframe => ?_
  simp only [List.mem_cons, List.not_mem_nil, or_false] at hp
  obtain rfl | rfl | rfl := hp <;> refine ⟨fun i _ => ?_, ?_, ?_, hframe⟩ <;> rw [hregs]
  · exact BitVec.getLsbD_and
  · exact flagsAre_bitwise _ true
  · exact BitVec.getLsbD_xor
  · exact flagsAre_bitwise _ false
  · exact BitVec.getLsbD_or
  · exact flagsAre_bitwise _ false

/-! ### INC and DEC (R229 to R232) -/

theorem form_inc8 (x : Operand8) : Form (Instr.inc8 x) [opByte 0 x.code 4] (if x = .atHL then 3 else 1) := by
  rcases x with (_ | _ | _ | _ | _ | _ | _) | _ <;> exact Form.plain rfl (by decide)

theorem form_dec8 (x : Operand8) : Form (Instr.dec8 x) [opByte 0 x.code 5] (if x = .atHL then 3 else 1) := by
  rcases x with (_ | _ | _ | _ | _ | _ | _) | _ <;> exact Form.plain rfl (by decide)

theorem flagsAre_aluInc (f v : Byte) :
    FlagsAre (maskF (aluInc f v).f) (decide (v + 1 = 0)) false (decide (v.toNat % 16 = 0xF)) (flagC f) := by
  rw [aluInc, maskF_packF]
  exact flagsAre_packF _ _ _ _

theorem flagsAre_aluDec (f v : Byte) :
    FlagsAre (maskF (aluDec f v).f) (decide (v - 1 = 0)) true (decide (v.toNat % 16 = 0)) (flagC f) := by
  rw [aluDec, maskF_packF]
  exact flagsAre_packF _ _ _ _

/-- R229, R231: an instruction that ends by writing F and a register. -/
theorem setF_setR8_completes (s : State) (r : Reg8) (o : AluOut) :
    ∃ t, done ((s.setF o.f).setR8 r o.val) = .next t ∧ t.r8 r = o.val ∧ (∀ q, q ≠ r → t.r8 q = s.r8 q) ∧
      t.regs.f = maskF o.f ∧ t.regs.sp = s.regs.sp ∧ t.regs.pc = s.regs.pc ∧ QuietFrame s t := by
  have hr8 : ∀ q, ((s.setF o.f).setR8 r o.val).instructionFinished.r8 q = ((s.setF o.f).setR8 r o.val).r8 q :=
    State.r8_congr rfl
  refine ⟨_, rfl, ?_, fun q hq => ?_, ?_, ?_, ?_, QuietFrame.of ?_⟩
  · exact (hr8 r).trans (State.r8_setR8_same _ r o.val)
  · exact (hr8 q).trans ((State.r8_setR8_other _ r q o.val hq).trans (s.r8_setF q o.f))
  · exact State.setR8_regs_f _ r o.val
  · exact State.setR8_regs_sp _ r o.val
  · exact State.setR8_regs_pc _ r o.val
  · rw [State.setR8_eq]
    rfl

/-- R230, R232: an instruction that reads the byte at HL, writes F and stores a byte at HL. -/
theorem setF_storeHL_completes {s : State} (w : s.mem.wf = true) (o : AluOut) :
    ∃ t, done (((s.busRead s.hl).2.setF o.f).write8 .atHL o.val) = .next t ∧
      t.regs = { s.regs with f := maskF o.f } ∧ StoreFrame s s.hl o.val t := by
  have hhl : ((s.busRead s.hl).2.setF o.f).hl = s.hl := by simp [State.hl]
  refine ⟨_, rfl, ?_, ?_⟩
  · simp [State.write8, State.setF]
  · rw [State.write8, hhl]
    refine StoreFrame.of w ?_
    rw [State.busRead_draws]
    rfl

theorem increment8_eq (x : Operand8) (s : State) : increment8 x s =
    done (((s.read8 x).2.setF (aluInc s.regs.f (s.read8 x).1).f).write8 x (aluInc s.regs.f (s.read8 x).1).val) := by
  simp only [increment8, State.read8_regs]

theorem decrement8_eq (x : Operand8) (s : State) : decrement8 x s =
    done (((s.read8 x).2.setF (aluDec s.regs.f (s.read8 x).1).f).write8 x (aluDec s.regs.f (s.read8 x).1).val) := by
  simp only [decrement8, State.read8_regs]

/-- R104: an instruction that replaces its operand by a function of it and writes F, on a register and on (HL). -/
theorem replace8_completes (s : State) {i : Operand8 → Instr} {g : Byte → AluOut} {new : Byte → Byte}
    {flags : Byte → Byte → Prop}
    (hexec : ∀ x, exec (i x) s = done (((s.read8 x).2.setF (g (s.read8 x).1).f).write8 x (g (s.read8 x).1).val))
    (hval : ∀ v, (g v).val = new v) (hflags : ∀ v, flags v (maskF (g v).f)) :
    (∀ r : Reg8, ∃ t, exec (i (.reg r)) s = .next t ∧ t.r8 r = new (s.r8 r) ∧ (∀ q, q ≠ r → t.r8 q = s.r8 q) ∧
      flags (s.r8 r) t.regs.f ∧ t.regs.sp = s.regs.sp ∧ t.regs.pc = s.regs.pc ∧ QuietFrame s t) ∧
    (s.mem.wf = true → ∃ t, exec (i .atHL) s = .next t ∧ t.regs = { s.regs with f := t.regs.f } ∧
      flags (s.busRead s.hl).1 t.regs.f ∧ StoreFrame s s.hl (new (s.busRead s.hl).1) t) := by
  refine ⟨fun r => ?_, fun w => ?_⟩
  · obtain ⟨t, ht, hr, hother, hf, hrest⟩ := setF_setR8_completes s r (g (s.r8 r))
    exact ⟨t, (hexec (.reg r)).trans ht, hr.trans (hval _), hother, hf ▸ hflags _, hrest⟩
  · obtain ⟨t, ht, hregs, hframe⟩ := setF_storeHL_completes w (g (s.busRead s.hl).1)
    have hf : t.regs.f = maskF (g (s.busRead s.hl).1).f := by rw [hregs]
    exact ⟨t, (hexec .atHL).trans ht, hf ▸ hregs, hf ▸ hflags _, hval _ ▸ hframe⟩

/-- Settles O16: each replaces its operand by `aluInc` or `aluDec` of it. -/
theorem incrementDecrement : Obligations.IncrementDecrement := by
  unfold Obligations.IncrementDecrement
  refine ⟨fun x => ⟨form_inc8 x, form_dec8 x⟩, ?_⟩
  intro s flags new inc i
  cases inc with
  | true =>
    exact replace8_completes s (flags := (flags · true)) (new := (new · true))
      (fun x => (exec_inc8 x s).trans (increment8_eq x s)) (fun _ => rfl) (flagsAre_aluInc s.regs.f)
  | false =>
    exact replace8_completes s (flags := (flags · false)) (new := (new · false))
      (fun x => (exec_dec8 x s).trans (decrement8_eq x s)) (fun _ => rfl) (flagsAre_aluDec s.regs.f)

/-! ### DAA (R233) -/

/-- R233: the low digit is corrected. -/
def daaLow (f a : Byte) : Bool := flagH f || (!flagN f && decide (a.toNat % 16 > 9))

/-- R233: the carry DAA leaves says that the high digit is corrected. -/
theorem daaCarry_eq (f a : Byte) : daaCarry f a = (flagC f || (!flagN f && decide (a.toNat > 0x99))) := by
  unfold daaCarry
  cases flagN f <;> simp

/-- R233: the two corrections have no bit in common, so their union is their sum. -/
theorem daaCorrection_toNat (f a : Byte) : (daaCorrection f a).toNat =
    (if daaLow f a then 0x06 else 0) + (if daaCarry f a then 0x60 else 0) := by
  have hor : ∀ low high : Bool, ((if low then 0x06 else 0 : Byte) ||| (if high then 0x60 else 0)).toNat =
      (if low then 0x06 else 0) + (if high then 0x60 else 0) := by decide
  rw [← hor]
  unfold daaCorrection daaLow daaCarry
  cases flagN f <;> simp

theorem aluDaa_val (f a : Byte) : (aluDaa f a).val =
    if flagN f then BitVec.ofNat 8 (a.toNat + 256 - (daaCorrection f a).toNat)
    else BitVec.ofNat 8 (a.toNat + (daaCorrection f a).toNat) := by
  unfold aluDaa
  apply BitVec.eq_of_toNat_eq
  split
  · simp only [BitVec.toNat_sub, BitVec.toNat_ofNat]
    omega
  · simp only [BitVec.toNat_add, BitVec.toNat_ofNat]

theorem flagsAre_aluDaa (f a : Byte) :
    FlagsAre (aluDaa f a).f (decide ((aluDaa f a).val = 0)) (flagN f) false (daaCarry f a) :=
  flagsAre_packF _ _ _ _

theorem exec_DAA_completes (s : State) : ∃ t, exec .DAA s = .next t ∧
    t.regs = { s.regs with a := (aluDaa s.regs.f s.regs.a).val, f := (aluDaa s.regs.f s.regs.a).f } ∧ QuietFrame s t := by
  have hmask : maskF (aluDaa s.regs.f s.regs.a).f = (aluDaa s.regs.f s.regs.a).f := maskF_packF _ _ _ _
  rw [← hmask]
  exact setAF_completes rfl _

/-- Settles O17: the correction and the carry as sums and flags. -/
theorem decimalAdjust : Obligations.DecimalAdjust := by
  unfold Obligations.DecimalAdjust
  refine ⟨Form.plain rfl (by decide), ?_⟩
  intro s a n low high corr
  have hcorr : (daaCorrection s.regs.f s.regs.a).toNat = corr := by
    rw [daaCorrection_toNat, daaCarry_eq]
    rfl
  obtain ⟨t, ht, hregs, hframe⟩ := exec_DAA_completes s
  refine ⟨t, ht, ?_, ?_, ?_, hframe⟩ <;> rw [hregs]
  · rw [← hcorr]
    exact aluDaa_val _ _
  · have hhigh : daaCarry s.regs.f s.regs.a = high := daaCarry_eq _ _
    exact hhigh ▸ flagsAre_aluDaa _ _

/-! ### Packed BCD (R233) -/

/-- R233: both digits of `x` are decimal. -/
def IsBcd (x : Byte) : Prop := x.toNat % 16 ≤ 9 ∧ x.toNat / 16 ≤ 9

/-- R233: the number a packed-BCD byte stands for. -/
def bcdValue (x : Byte) : Nat := 10 * (x.toNat / 16) + x.toNat % 16

/-- R233: the low digits' sum is corrected when it is above 9, and the bytes' sum when it is above 0x99, which is when the
high digits' sum, with the decimal carry, is above 9. -/
theorem daaSum_digits {ah al vh vl c : Nat} (hah : ah ≤ 9) (hal : al ≤ 9) (hvh : vh ≤ 9) (hvl : vl ≤ 9) (hc : c ≤ 1) :
    ∃ h l, h ≤ 9 ∧ l ≤ 9 ∧ 10 * h + l = (10 * ah + al + (10 * vh + vl) + c) % 100 ∧
      (16 * ah + al + (16 * vh + vl) + c + ((if al + vl + c > 9 then 0x06 else 0) +
        if 16 * ah + al + (16 * vh + vl) + c > 0x99 then 0x60 else 0)) % 256 = 16 * h + l := by
  split_ifs with hlow hhigh hhigh
  · exact ⟨ah + vh + 1 - 10, al + vl + c - 10, by omega, by omega, by omega, by omega⟩
  · exact ⟨ah + vh + 1, al + vl + c - 10, by omega, by omega, by omega, by omega⟩
  · exact ⟨ah + vh - 10, al + vl + c, by omega, by omega, by omega, by omega⟩
  · exact ⟨ah + vh, al + vl + c, by omega, by omega, by omega, by omega⟩

/-- R233: a digit is corrected when its difference borrows. -/
theorem daaDifference_digits {ah al vh vl c : Nat} (hah : ah ≤ 9) (hal : al ≤ 9) (hvh : vh ≤ 9) (hvl : vl ≤ 9)
    (hc : c ≤ 1) :
    ∃ h l, h ≤ 9 ∧ l ≤ 9 ∧ 10 * h + l = (10 * ah + al + 200 - (10 * vh + vl) - c) % 100 ∧
      (16 * ah + al + 512 - (16 * vh + vl) - c - ((if al < vl + c then 0x06 else 0) +
        if 16 * ah + al < 16 * vh + vl + c then 0x60 else 0)) % 256 = 16 * h + l := by
  split_ifs with hlow hhigh hhigh
  · exact ⟨ah + 10 - vh - 1, al + 10 - vl - c, by omega, by omega, by omega, by omega⟩
  · exact ⟨ah - vh - 1, al + 10 - vl - c, by omega, by omega, by omega, by omega⟩
  · exact ⟨ah + 10 - vh, al - vl - c, by omega, by omega, by omega, by omega⟩
  · exact ⟨ah - vh, al - vl - c, by omega, by omega, by omega, by omega⟩

theorem isBcd_of_digits {x : Byte} {h l : Nat} (hh : h ≤ 9) (hl : l ≤ 9) (hx : x.toNat = 16 * h + l) :
    IsBcd x ∧ bcdValue x = 10 * h + l := by
  simp only [IsBcd, bcdValue, hx]
  omega

/-- R233: DAA on the value and the flags an operation left. -/
def daaAfter (o : AluOut) : AluOut := aluDaa o.f o.val

theorem daaAfter_of_digits {o : AluOut} {h l value : Nat} (hh : h ≤ 9) (hl : l ≤ 9) (hvalue : 10 * h + l = value)
    (hdigits : (daaAfter o).val.toNat = 16 * h + l) :
    IsBcd (daaAfter o).val ∧ flagH (daaAfter o).f = false ∧ bcdValue (daaAfter o).val = value ∧
      flagC (daaAfter o).f = daaCarry o.f o.val := by
  obtain ⟨hbcd, hres⟩ := isBcd_of_digits hh hl hdigits
  obtain ⟨-, -, hhalf, hcarry, -⟩ := flagsAre_aluDaa o.f o.val
  exact ⟨hbcd, hhalf, hres.trans hvalue, hcarry⟩

theorem aluAdc_val_toNat (c : Bool) (a v : Byte) :
    (aluAdc c a v).val.toNat = (a.toNat + v.toNat + c.toNat) % 256 := BitVec.toNat_ofNat _ _

theorem aluSbc_val_toNat (c : Bool) (a v : Byte) :
    (aluSbc c a v).val.toNat = (a.toNat + 512 - v.toNat - c.toNat) % 256 := BitVec.toNat_ofNat _ _

/-- After an addition H and the digit left say together that the low digits' sum is above 9. -/
theorem daaLow_aluAdc {a v : Byte} (ha : IsBcd a) (hv : IsBcd v) (c : Bool) :
    daaLow (aluAdc c a v).f (aluAdc c a v).val = decide (a.toNat % 16 + v.toNat % 16 + c.toNat > 9) := by
  obtain ⟨hal, -⟩ := ha
  obtain ⟨hvl, -⟩ := hv
  have hc := c.toNat_le
  obtain ⟨-, hn, hh, -, -⟩ := flagsAre_aluAdc c a v
  rw [daaLow, hn, hh, aluAdc_val_toNat, Bool.eq_iff_iff]
  simp only [Bool.not_false, Bool.true_and, Bool.or_eq_true, decide_eq_true_iff]
  omega

/-- After an addition C and the byte left say together that the bytes' sum is above 0x99. -/
theorem daaCarry_aluAdc {a v : Byte} (ha : IsBcd a) (hv : IsBcd v) (c : Bool) :
    daaCarry (aluAdc c a v).f (aluAdc c a v).val = decide (a.toNat + v.toNat + c.toNat > 0x99) := by
  obtain ⟨hal, hah⟩ := ha
  obtain ⟨hvl, hvh⟩ := hv
  have hc := c.toNat_le
  obtain ⟨-, hn, -, hcarry, -⟩ := flagsAre_aluAdc c a v
  rw [daaCarry_eq, hn, hcarry, aluAdc_val_toNat, Bool.eq_iff_iff]
  simp only [Bool.not_false, Bool.true_and, Bool.or_eq_true, decide_eq_true_iff]
  omega

theorem daaLow_aluSbc (c : Bool) (a v : Byte) :
    daaLow (aluSbc c a v).f (aluSbc c a v).val = decide (a.toNat % 16 < v.toNat % 16 + c.toNat) := by
  simp [daaLow, aluSbc]

theorem daaCarry_aluSbc (c : Bool) (a v : Byte) :
    daaCarry (aluSbc c a v).f (aluSbc c a v).val = decide (a.toNat < v.toNat + c.toNat) := by
  simp [daaCarry, aluSbc]

/-- R233: DAA after an addition of packed-BCD bytes. -/
theorem daaAfter_aluAdc {a v : Byte} (ha : IsBcd a) (hv : IsBcd v) (c : Bool) :
    IsBcd (daaAfter (aluAdc c a v)).val ∧ flagH (daaAfter (aluAdc c a v)).f = false ∧
    bcdValue (daaAfter (aluAdc c a v)).val = (bcdValue a + bcdValue v + c.toNat) % 100 ∧
    flagC (daaAfter (aluAdc c a v)).f = decide (bcdValue a + bcdValue v + c.toNat > 99) := by
  have hlow := daaLow_aluAdc ha hv c
  have hhigh := daaCarry_aluAdc ha hv c
  have hcarry : (a.toNat + v.toNat + c.toNat > 0x99) = (bcdValue a + bcdValue v + c.toNat > 99) := by
    obtain ⟨hal, hah⟩ := ha
    obtain ⟨hvl, hvh⟩ := hv
    have hc := c.toNat_le
    simp only [bcdValue, eq_iff_iff]
    omega
  have hn : flagN (aluAdc c a v).f = false := flagN_packF _ _ _ _
  obtain ⟨h, l, hh, hl, hvalue, hdigits⟩ := daaSum_digits ha.2 ha.1 hv.2 hv.1 c.toNat_le
  rw [Nat.div_add_mod, Nat.div_add_mod] at hdigits
  simp only [← hcarry, ← hhigh]
  refine daaAfter_of_digits hh hl hvalue ?_
  rw [← hdigits, daaAfter, aluDaa_val, hn, if_neg Bool.false_ne_true, BitVec.toNat_ofNat, daaCorrection_toNat, hlow,
    hhigh, aluAdc_val_toNat, Nat.mod_add_mod]
  simp only [decide_eq_true_iff]

/-- R233: DAA after a subtraction of packed-BCD bytes. -/
theorem daaAfter_aluSbc {a v : Byte} (ha : IsBcd a) (hv : IsBcd v) (c : Bool) :
    IsBcd (daaAfter (aluSbc c a v)).val ∧ flagH (daaAfter (aluSbc c a v)).f = false ∧
    bcdValue (daaAfter (aluSbc c a v)).val = (bcdValue a + 200 - bcdValue v - c.toNat) % 100 ∧
    flagC (daaAfter (aluSbc c a v)).f = decide (bcdValue a < bcdValue v + c.toNat) := by
  have hc := c.toNat_le
  have hlow := daaLow_aluSbc c a v
  have hhigh := daaCarry_aluSbc c a v
  have hborrow : (a.toNat < v.toNat + c.toNat) = (bcdValue a < bcdValue v + c.toNat) := by
    obtain ⟨hal, hah⟩ := ha
    obtain ⟨hvl, hvh⟩ := hv
    simp only [bcdValue, eq_iff_iff]
    omega
  have hn : flagN (aluSbc c a v).f = true := flagN_packF _ _ _ _
  obtain ⟨h, l, hh, hl, hvalue, hdigits⟩ := daaDifference_digits ha.2 ha.1 hv.2 hv.1 c.toNat_le
  rw [Nat.div_add_mod, Nat.div_add_mod] at hdigits
  simp only [← hborrow, ← hhigh]
  refine daaAfter_of_digits hh hl hvalue ?_
  rw [← hdigits, daaAfter, aluDaa_val, hn, if_pos rfl, BitVec.toNat_ofNat, daaCorrection_toNat, hlow, hhigh,
    aluSbc_val_toNat]
  simp only [decide_eq_true_iff]
  split_ifs <;> omega

/-- Settles O18: ADD and SUB are ADC and SBC with nothing carried in. -/
theorem decimalAdjustGivesBcd : Obligations.DecimalAdjustGivesBcd := by
  unfold Obligations.DecimalAdjustGivesBcd
  intro s op n hop dec valid c ha hn
  obtain ⟨t, ht, htregs, -⟩ := exec_aluImm_completes (u := s) rfl op n
  obtain ⟨u, hu, huregs, -⟩ := exec_DAA_completes t
  refine ⟨t, u, ht, hu, ?_⟩
  rw [huregs, htregs]
  simp only [List.mem_cons, List.not_mem_nil, or_false] at hop
  obtain rfl | rfl | rfl | rfl := hop
  · exact daaAfter_aluAdc ha hn false
  · exact daaAfter_aluAdc ha hn (flagC s.regs.f)
  · have hsub : alu .sub s.regs.f s.regs.a n = aluSbc false s.regs.a n := aluSub_eq_aluSbc s.regs.a n
    rw [hsub]
    exact daaAfter_aluSbc ha hn false
  · exact daaAfter_aluSbc ha hn (flagC s.regs.f)

/-! ### CPL, SCF, CCF (R234 to R236) -/

theorem aluCpl_val (f a : Byte) : (aluCpl f a).val = ~~~a := BitVec.xor_allOnes

/-- Settles O19: CPL ends by writing A and F, SCF and CCF by writing F. -/
theorem complementAndCarryFlag : Obligations.ComplementAndCarryFlag := by
  unfold Obligations.ComplementAndCarryFlag
  refine ⟨Form.plain rfl (by decide), Form.plain rfl (by decide), Form.plain rfl (by decide), ?_⟩
  intro s z c
  refine ⟨?_, ?_, ?_⟩
  · obtain ⟨t, ht, hregs, hframe⟩ := setAF_completes (u := s) rfl (aluCpl s.regs.f s.regs.a)
    refine ⟨t, ht, ?_, fun i hi => ?_, ?_, hframe⟩ <;> rw [hregs]
    · rw [aluCpl_val, BitVec.getLsbD_not, decide_eq_true hi, Bool.true_and]
    · rw [aluCpl, maskF_packF]
      exact flagsAre_packF z true true c
  · obtain ⟨t, ht, hregs, hframe⟩ := setF_completes s (scfF s.regs.f)
    refine ⟨t, ht, ?_, ?_, hframe⟩ <;> rw [hregs]
    rw [scfF, maskF_packF]
    exact flagsAre_packF z false false true
  · obtain ⟨t, ht, hregs, hframe⟩ := setF_completes s (ccfF s.regs.f)
    refine ⟨t, ht, ?_, ?_, hframe⟩ <;> rw [hregs]
    rw [ccfF, maskF_packF]
    exact flagsAre_packF z false false (!c)

end Sys2Proof.Machine
end

section
/-! O20 and O21: the 16-bit arithmetic. ADD HL,rr writes F and HL. INC rr and DEC rr are one OAM check and one write of the
pair, whose frame is shown once for any word written. -/

namespace Sys2Proof.Machine

/-! ### ADD HL,rr (R260) -/

theorem form_addHL (r : Reg16) : Form (Instr.addHL r) [opByte 0 (2 * r.code + 1) 1] 2 := by
  cases r <;> exact Form.plain rfl (by decide)

theorem flagsAre_addHLF (f : Byte) (hl v : Word) :
    FlagsAre (addHLF f hl v) (flagZ f) false (decide (hl.toNat % 0x1000 + v.toNat % 0x1000 > 0x0FFF))
      (decide (hl.toNat + v.toNat > 0xFFFF)) :=
  flagsAre_packF _ _ _ _

theorem addToHL_completes (r : Reg16) (s : State) : ∃ t, addToHL r s = .next t ∧
    t.regs = { s.regs with
      h := hiByte (s.hl + s.r16 r), l := loByte (s.hl + s.r16 r), f := addHLF s.regs.f s.hl (s.r16 r) } ∧
    QuietFrame s t := by
  have hmask : maskF (addHLF s.regs.f s.hl (s.r16 r)) = addHLF s.regs.f s.hl (s.r16 r) := maskF_packF _ _ _ _
  rw [← hmask]
  exact ⟨_, rfl, rfl, QuietFrame.of rfl⟩

/-- Settles O20: adding two words adds their numbers modulo 65536, and H and C are the carries of that sum. -/
theorem addPair : Obligations.AddPair := by
  unfold Obligations.AddPair
  intro r
  refine ⟨form_addHL r, ?_⟩
  intro s sum
  have hsum : s.hl + s.r16 r = BitVec.ofNat 16 sum := BitVec.add_def s.hl (s.r16 r)
  obtain ⟨t, ht, hregs, hframe⟩ := addToHL_completes r s
  rw [hsum] at hregs
  refine ⟨t, (exec_addHL r s).trans ht, ?_, ?_, hframe⟩ <;> rw [hregs]
  exact flagsAre_addHLF s.regs.f s.hl (s.r16 r)

/-! ### INC rr and DEC rr (R156, R261, R262) -/

theorem form_inc16 (r : Reg16) : Form (Instr.inc16 r) [opByte 0 (2 * r.code) 3] 2 := by
  cases r <;> exact Form.plain rfl (by decide)

theorem form_dec16 (r : Reg16) : Form (Instr.dec16 r) [opByte 0 (2 * r.code + 1) 3] 2 := by
  cases r <;> exact Form.plain rfl (by decide)

/-- R156, R261: the check changes no register, so the pair is stepped from the value checked. -/
theorem increment16_eq (r : Reg16) (s : State) :
    increment16 r s = done ((s.oamCheck .incDec (s.r16 r)).setR16 r (s.r16 r + 1)) := by
  rw [increment16, State.r16_congr (s.oamCheck_regs .incDec (s.r16 r))]

theorem decrement16_eq (r : Reg16) (s : State) :
    decrement16 r s = done ((s.oamCheck .incDec (s.r16 r)).setR16 r (s.r16 r - 1)) := by
  rw [decrement16, State.r16_congr (s.oamCheck_regs .incDec (s.r16 r))]

/-- R156: an instruction that makes the OAM check on `x` and then writes the pair. -/
theorem oamCheck_setR16_completes {s : State} (w : s.mem.wf = true) (ty : OamType) (x : Word) (r : Reg16) (v : Word) :
    ∃ t, done ((s.oamCheck ty x).setR16 r v) = .next t ∧ t.r16 r = v ∧ (∀ q, q ≠ r → t.r16 q = s.r16 q) ∧
      t.regs.a = s.regs.a ∧ t.regs.f = s.regs.f ∧ t.regs.pc = s.regs.pc ∧ CheckFrame s ty x t := by
  let u := s.oamCheck ty x
  have hregs : u.regs = s.regs := s.oamCheck_regs ty x
  have hr16 : ∀ q, (u.setR16 r v).instructionFinished.r16 q = (u.setR16 r v).r16 q := State.r16_congr rfl
  refine ⟨(u.setR16 r v).instructionFinished, rfl, ?_, fun q hq => ?_, ?_, ?_, ?_, CheckFrame.of w ?_⟩
  · exact (hr16 r).trans (u.r16_setR16_same r v)
  · calc (u.setR16 r v).instructionFinished.r16 q
      _ = (u.setR16 r v).r16 q := hr16 q
      _ = u.r16 q := u.r16_setR16_other r q v hq
      _ = s.r16 q := State.r16_congr hregs q
  · exact (u.setR16_regs_a r v).trans (congrArg Regs.a hregs)
  · exact (u.setR16_regs_f r v).trans (congrArg Regs.f hregs)
  · exact (u.setR16_regs_pc r v).trans (congrArg Regs.pc hregs)
  · rw [State.setR16_eq]

/-- Settles O21: INC and DEC differ in the word written only. -/
theorem stepPair : Obligations.StepPair := by
  unfold Obligations.StepPair
  refine fun r => ⟨form_inc16 r, form_dec16 r, fun s w => ?_⟩
  simp only [List.forall_mem_cons, exec_inc16, exec_dec16, increment16_eq, decrement16_eq]
  exact ⟨oamCheck_setR16_completes w .incDec (s.r16 r) r (s.r16 r + 1),
    oamCheck_setR16_completes w .incDec (s.r16 r) r (s.r16 r - 1), List.forall_mem_nil _⟩

end Sys2Proof.Machine
end

section
/-! O22 to O25: rotates, shifts and single bits. The CB opcodes are read off their three fields. Each operation's result is
described bit by bit once; an instruction then writes it to A, to its operand with F, to its operand alone, or to F alone. -/

namespace Sys2Proof.Machine

/-! ### Encodings and durations of the CB table (R102, R104, R109, R421) -/

theorem fields_opByte {x y z : Nat} (hx : x < 4) (hy : y < 8) (hz : z < 8) :
    fieldX (opByte x y z) = x ∧ fieldY (opByte x y z) = y ∧ fieldZ (opByte x y z) = z := by
  simp only [fieldX, fieldY, fieldZ, opByte, BitVec.toNat_ofNat]
  omega

theorem operand8_code (x : Operand8) : operand8 x.code = x := by
  rcases x with (_ | _ | _ | _ | _ | _ | _) | _ <;> rfl

theorem operandCode_lt (x : Operand8) : x.code < 8 := by
  rcases x with (_ | _ | _ | _ | _ | _ | _) | _ <;> decide

theorem operandCode_eq_six_iff (x : Operand8) : x.code = 6 ↔ x = .atHL := by
  rcases x with (_ | _ | _ | _ | _ | _ | _) | _ <;> decide

theorem rotOp_code (op : RotOp) : rotOp op.code = op := by cases op <;> rfl

theorem rotCode_lt (op : RotOp) : op.code < 8 := by cases op <;> decide

theorem fin8_val (b : Fin 8) : fin8 b.val = b := Fin.ext (Nat.mod_eq_of_lt b.isLt)

/-- R109, R421: the CB opcode of quarter `q`, row `y` and operand `x` takes 2 M-cycles on a register; on (HL) it takes 4, or
3 in the quarter of BIT, which writes nothing back. -/
theorem form_cb {q y : Nat} (hq : q < 4) (hy : y < 8) (x : Operand8) {i : Instr}
    (hi : ∀ op, fieldX op = q → fieldY op = y → operand8 (fieldZ op) = x → decodeCB op = i) :
    Form i [0xCB, opByte q y x.code] (if x = .atHL then if q = 1 then 3 else 4 else 2) := by
  obtain ⟨hX, hY, hZ⟩ := fields_opByte hq hy (operandCode_lt x)
  refine Form.cb ?_ ?_
  · have hx : operand8 (fieldZ (opByte q y x.code)) = x := hZ.symm ▸ operand8_code x
    rw [← hi _ hX hY hx]
    rfl
  · simp only [cbCycles, hX, hZ, operandCode_eq_six_iff x]

theorem form_rot (op : RotOp) (x : Operand8) :
    Form (Instr.rot op x) [0xCB, opByte 0 op.code x.code] (if x = .atHL then 4 else 2) :=
  form_cb (by decide) (rotCode_lt op) x fun _ hX hY hZ => by simp only [decodeCB, hX, hY, hZ, rotOp_code]

theorem form_bitOp (b : Fin 8) (x : Operand8) :
    Form (Instr.bitOp b x) [0xCB, opByte 1 b.val x.code] (if x = .atHL then 3 else 2) :=
  form_cb (by decide) b.isLt x fun _ hX hY hZ => by simp only [decodeCB, hX, hY, hZ, fin8_val]

theorem form_resOp (b : Fin 8) (x : Operand8) :
    Form (Instr.resOp b x) [0xCB, opByte 2 b.val x.code] (if x = .atHL then 4 else 2) :=
  form_cb (by decide) b.isLt x fun _ hX hY hZ => by simp only [decodeCB, hX, hY, hZ, fin8_val]

theorem form_setOp (b : Fin 8) (x : Operand8) :
    Form (Instr.setOp b x) [0xCB, opByte 3 b.val x.code] (if x = .atHL then 4 else 2) :=
  form_cb (by decide) b.isLt x fun _ hX hY hZ => by simp only [decodeCB, hX, hY, hZ, fin8_val]

/-! ### The rotates and shifts bit by bit (R276 to R283) -/

theorem getLsbD_bit0 (b : Bool) (i : Nat) : (bit0 b).getLsbD i = (decide (i = 0) && b) := by
  cases b <;> simp [bit0]

theorem bit7_eq (b : Bool) : bit7 b = if b then BitVec.twoPow 8 7 else 0#8 := rfl

theorem getLsbD_bit7 (b : Bool) (i : Nat) : (bit7 b).getLsbD i = (decide (i = 7) && b) := by
  rw [bit7_eq]
  cases b <;> simp [BitVec.getLsbD_twoPow, eq_comm]

/-- A shift to the left by one, with `b` entering at bit 0. -/
theorem getLsbD_shiftLeft_or_bit0 (v : Byte) (b : Bool) (i : Nat) (hi : i < 8) :
    ((v <<< 1) ||| bit0 b).getLsbD i = if i = 0 then b else v.getLsbD (i - 1) := by
  rw [BitVec.getLsbD_or, BitVec.getLsbD_shiftLeft, getLsbD_bit0]
  by_cases h : i = 0 <;> simp [h, hi]

/-- A shift to the right by one, with `b` entering at bit 7. -/
theorem getLsbD_ushiftRight_or_bit7 (v : Byte) (b : Bool) (i : Nat) :
    ((v >>> 1) ||| bit7 b).getLsbD i = if i = 7 then b else v.getLsbD (i + 1) := by
  rw [BitVec.getLsbD_or, BitVec.getLsbD_ushiftRight, getLsbD_bit7, Nat.add_comm 1 i]
  by_cases h : i = 7 <;> simp [h]

theorem getLsbD_swap (v : Byte) (i : Nat) (hi : i < 8) :
    ((v <<< 4) ||| (v >>> 4)).getLsbD i = v.getLsbD ((i + 4) % 8) := by
  rw [BitVec.getLsbD_or, BitVec.getLsbD_shiftLeft, BitVec.getLsbD_ushiftRight, Nat.add_comm 4 i]
  by_cases h : i < 4
  · rw [Nat.mod_eq_of_lt (by omega : i + 4 < 8)]
    simp [h]
  · rw [v.getLsbD_of_ge (i + 4) (by omega), (by omega : (i + 4) % 8 = i - 4)]
    simp [h, hi]

/-- A shift fills with 0, and SRA with a copy of bit 7. -/
theorem rot_shifts (f v : Byte) :
    (rot .sla f v).val = (v <<< 1) ||| bit0 false ∧ (rot .sra f v).val = (v >>> 1) ||| bit7 (v.getLsbD 7) ∧
      (rot .srl f v).val = (v >>> 1) ||| bit7 false := by
  have hsign : v &&& 0x80 = bit7 (v.getLsbD 7) := BitVec.and_twoPow v 7
  exact ⟨BitVec.or_zero.symm, congrArg (v >>> 1 ||| ·) hsign, BitVec.or_zero.symm⟩

/-- R276 to R283: the bit that left the byte is the C of the flags packed with the result. -/
theorem rotatesTo_rot (op : RotOp) (f v : Byte) :
    RotatesTo op (flagC f) v (rot op f v).val (flagC (rot op f v).f) := by
  obtain ⟨hsla, hsra, hsrl⟩ := rot_shifts f v
  cases op with
  | rlc => exact ⟨getLsbD_shiftLeft_or_bit0 v _, flagC_packF _ _ _ _⟩
  | rrc => exact ⟨fun i _ => getLsbD_ushiftRight_or_bit7 v _ i, flagC_packF _ _ _ _⟩
  | rl => exact ⟨getLsbD_shiftLeft_or_bit0 v _, flagC_packF _ _ _ _⟩
  | rr => exact ⟨fun i _ => getLsbD_ushiftRight_or_bit7 v _ i, flagC_packF _ _ _ _⟩
  | sla => exact ⟨hsla ▸ getLsbD_shiftLeft_or_bit0 v false, flagC_packF _ _ _ _⟩
  | sra => exact ⟨fun i _ => hsra ▸ getLsbD_ushiftRight_or_bit7 v _ i, flagC_packF _ _ _ _⟩
  | swap => exact ⟨getLsbD_swap v, flagC_packF _ _ _ _⟩
  | srl => exact ⟨fun i _ => hsrl ▸ getLsbD_ushiftRight_or_bit7 v false i, flagC_packF _ _ _ _⟩

theorem rot_f (op : RotOp) (f v : Byte) :
    (rot op f v).f = packF ((rot op f v).val == 0) false false (flagC (rot op f v).f) := by
  cases op <;> exact congrArg (packF _ false false) (flagC_packF _ _ _ _).symm

theorem flagsAre_rot (op : RotOp) (f v : Byte) :
    FlagsAre (maskF (rot op f v).f) (decide ((rot op f v).val = 0)) false false (flagC (rot op f v).f) := by
  rw [rot_f, maskF_packF, flagC_packF]
  exact flagsAre_packF _ _ _ _

/-- R270: the rotates of A clear Z, whatever the result. -/
theorem flagsAre_accRot (op : RotOp) (f a : Byte) :
    FlagsAre (maskF (accRot op f a).f) false false false (flagC (rot op f a).f) := by
  have hf : (accRot op f a).f = packF false false false (flagC (rot op f a).f) := by
    rw [accRot, rot_f, clearZ, flagN_packF, flagH_packF, flagC_packF]
  rw [hf, maskF_packF]
  exact flagsAre_packF _ _ _ _

/-! ### The rotates of A (R270 to R274) -/

/-- R270 to R274: a rotate of A, whose result bits and carry out are read off the rule of its operation. -/
theorem rotateA_completes (s : State) {op : RotOp} {bits : Nat → Bool} {out : Bool}
    (h : ∀ r o, RotatesTo op (flagC s.regs.f) s.regs.a r o → (∀ i, i < 8 → r.getLsbD i = bits i) ∧ o = out) :
    ∃ t, rotateA op s = .next t ∧ (∀ i, i < 8 → t.regs.a.getLsbD i = bits i) ∧
      t.regs = { s.regs with a := t.regs.a, f := t.regs.f } ∧ FlagsAre t.regs.f false false false out ∧
      QuietFrame s t := by
  obtain ⟨hbits, rfl⟩ := h _ _ (rotatesTo_rot op s.regs.f s.regs.a)
  obtain ⟨t, ht, hregs, hframe⟩ := setAF_completes (u := s) rfl (accRot op s.regs.f s.regs.a)
  refine ⟨t, ht, ?_, ?_, ?_, hframe⟩ <;> rw [hregs]
  · exact hbits
  · exact flagsAre_accRot op s.regs.f s.regs.a

/-- Settles O22: the four are RLC, RL, RRC and RR on A. -/
theorem rotateAccumulator : Obligations.RotateAccumulator := by
  unfold Obligations.RotateAccumulator
  refine ⟨Form.plain rfl (by decide), Form.plain rfl (by decide), Form.plain rfl (by decide), Form.plain rfl (by decide),
    ?_⟩
  intro s a
  simp only [List.forall_mem_cons]
  exact ⟨⟨rotateA_completes s (op := .rlc) fun _ _ h => h, rotateA_completes s (op := .rl) fun _ _ h => h,
      List.forall_mem_nil _⟩,
    rotateA_completes s (op := .rrc) fun _ _ h => h, rotateA_completes s (op := .rr) fun _ _ h => h,
    List.forall_mem_nil _⟩

/-! ### The rotates and shifts of an operand (R275 to R283) -/

theorem rotate_eq (op : RotOp) (x : Operand8) (s : State) : rotate op x s =
    done (((s.read8 x).2.setF (rot op s.regs.f (s.read8 x).1).f).write8 x (rot op s.regs.f (s.read8 x).1).val) := by
  simp only [rotate, State.read8_regs]

/-- Settles O23: each replaces its operand by `rot` of it. -/
theorem rotateOperand : Obligations.RotateOperand := by
  unfold Obligations.RotateOperand
  refine ⟨form_rot, fun op s => ?_⟩
  have hbits := rotatesTo_rot op s.regs.f
  obtain ⟨hreg, hmem⟩ := replace8_completes s (new := fun v => (rot op s.regs.f v).val)
    (flags := fun v f => FlagsAre f (decide ((rot op s.regs.f v).val = 0)) false false (flagC (rot op s.regs.f v).f))
    (fun x => (exec_rot op x s).trans (rotate_eq op x s)) (fun _ => rfl) (flagsAre_rot op s.regs.f)
  refine ⟨fun r => ?_, fun w => ?_⟩
  · obtain ⟨t, ht, hr, hother, hf, hrest⟩ := hreg r
    exact ⟨t, _, ht, hr ▸ hbits _, hother, hr ▸ hf, hrest⟩
  · obtain ⟨t, ht, hregs, hf, hframe⟩ := hmem w
    exact ⟨t, _, _, ht, hbits _, hregs, hf, hframe⟩

/-! ### BIT (R284) -/

theorem State.read8_draws (s : State) (x : Operand8) : (s.read8 x).2 = { s with draws := (s.read8 x).2.draws } := by
  cases x with
  | reg r => rfl
  | atHL => exact s.busRead_draws s.hl

theorem testBit_completes (b : Fin 8) (x : Operand8) (s : State) :
    ∃ t, testBit b x s = .next t ∧ t.regs = { s.regs with f := t.regs.f } ∧
      FlagsAre t.regs.f (!(s.read8 x).1.getLsbD b.val) false true (flagC s.regs.f) ∧ QuietFrame s t := by
  have hf : maskF (bitF b s.regs.f (s.read8 x).1) = bitF b s.regs.f (s.read8 x).1 := maskF_packF _ _ _ _
  refine ⟨_, rfl, ?_, ?_, QuietFrame.of ?_⟩
  · simp [State.setF]
  · simp only [State.instructionFinished_regs, State.setF_regs_f, State.read8_regs, hf]
    exact flagsAre_packF _ _ _ _
  · rw [State.read8_draws]
    rfl

namespace Bits

/-- Settles O24: the operand is read and not written back. -/
theorem testBit : Obligations.TestBit := by
  unfold Obligations.TestBit
  refine fun b x => ⟨form_bitOp b x, fun s => ?_⟩
  rw [exec_bitOp]
  cases x with
  | reg r => exact testBit_completes b (.reg r) s
  | atHL => exact testBit_completes b .atHL s

end Bits

/-! ### RES and SET (R285, R286) -/

/-- R285, R286: `result` has `set` in bit `b` and every other bit of `v`. -/
def BitChanged (b : Fin 8) (set : Bool) (v result : Byte) : Prop :=
  ∀ j, j < 8 → result.getLsbD j = if j = b.val then set else v.getLsbD j

theorem resBit_changes (b : Fin 8) (v : Byte) : BitChanged b false v (resBit b v) := by
  have hres : resBit b v = v &&& ~~~BitVec.twoPow 8 b.val := rfl
  intro j hj
  by_cases h : j = b.val <;> simp [hres, h, hj]

theorem setBit_changes (b : Fin 8) (v : Byte) : BitChanged b true v (setBit b v) := by
  have hset : setBit b v = v ||| BitVec.twoPow 8 b.val := rfl
  intro j hj
  by_cases h : j = b.val <;> simp [hset, h, hj]

/-- R275: an instruction that writes a function of its operand back to it and no flag, on a register and on (HL). -/
theorem writeBack8_completes (s : State) {i : Operand8 → Instr} {new : Byte → Byte} {P : Byte → Byte → Prop}
    (hexec : ∀ x, exec (i x) s = done ((s.read8 x).2.write8 x (new (s.read8 x).1))) (hnew : ∀ v, P v (new v)) :
    (∀ r : Reg8, ∃ t, exec (i (.reg r)) s = .next t ∧ P (s.r8 r) (t.r8 r) ∧ (∀ q, q ≠ r → t.r8 q = s.r8 q) ∧
      SameFSpPc s t ∧ QuietFrame s t) ∧
    (s.mem.wf = true → ∃ t v, exec (i .atHL) s = .next t ∧ P (s.busRead s.hl).1 v ∧ t.regs = s.regs ∧
      StoreFrame s s.hl v t) := by
  refine ⟨fun r => ?_, fun w => ⟨_, new (s.busRead s.hl).1, hexec .atHL, hnew _, ?_, ?_⟩⟩
  · obtain ⟨t, ht, hr, hrest⟩ := setR8_completes (u := s) rfl r (new (s.r8 r))
    exact ⟨t, (hexec (.reg r)).trans ht, hr ▸ hnew _, hrest⟩
  · simp [State.write8, State.read8]
  · have hhl : (s.busRead s.hl).2.hl = s.hl := State.hl_congr (s.busRead_regs s.hl)
    simp only [State.write8, State.read8, hhl]
    refine StoreFrame.of w ?_
    rw [State.busRead_draws]

/-- Settles O25: RES writes `resBit` of the operand back to it, SET `setBit`. -/
theorem changeBit : Obligations.ChangeBit := by
  unfold Obligations.ChangeBit
  refine fun b => ⟨fun x => ⟨form_resOp b x, form_setOp b x⟩, ?_⟩
  intro s set i
  cases set with
  | true => exact writeBack8_completes s (P := BitChanged b true) (exec_setOp b · s) (setBit_changes b)
  | false => exact writeBack8_completes s (P := BitChanged b false) (exec_resOp b · s) (resBit_changes b)

end Sys2Proof.Machine
end

section
/-! O26 to O29: the control transfers. A jump writes pc and nothing else; a call is a push of pc and a jump; a return is a pop
into pc. Each of these meanings of Machine/Control.lean is shown once to complete with its registers and its frame; the
conditional forms are the meaning or, when the condition fails, the end of the instruction. -/

namespace Sys2Proof.Machine

/-! ### Jumps (R301 to R305) -/

theorem done_completes (s : State) : ∃ t, done s = .next t ∧ t.regs = s.regs ∧ QuietFrame s t :=
  ⟨s.instructionFinished, rfl, rfl, QuietFrame.of rfl⟩

theorem jumpTo_completes (target : Word) (s : State) :
    ∃ t, jumpTo target s = .next t ∧ t.regs = { s.regs with pc := target } ∧ QuietFrame s t :=
  ⟨(s.setPc target).instructionFinished, rfl, rfl, QuietFrame.of rfl⟩

/-- R302, R305: a jump under a condition writes the target or leaves pc at the next instruction. -/
theorem jumpTo_or_done_completes (c : Bool) (target : Word) (s : State) :
    ∃ t, (if c then jumpTo target s else done s) = .next t ∧
      t.regs = { s.regs with pc := if c then target else s.regs.pc } ∧ QuietFrame s t := by
  cases c with
  | true => exact jumpTo_completes target s
  | false => exact done_completes s

/-- R304: a relative jump is a jump, with the displacement as an unsigned number. -/
theorem jumpBy_eq (e : Byte) (s : State) : jumpBy e s =
    jumpTo (s.regs.pc + BitVec.ofNat 16 (if e.toNat < 128 then e.toNat else e.toNat + 0xFF00)) s := by
  rw [jumpBy, jumpTo, sext16_eq_ofNat, apply_ite (BitVec.ofNat 16)]

/-! ### Calls (R306, R307, R311) -/

theorem callTo_completes {s : State} (w : s.mem.wf = true) (target : Word) :
    ∃ t, callTo target s = .next t ∧ t.regs = { s.regs with sp := s.regs.sp - 2, pc := target } ∧
      PushFrame s s.regs.pc t := by
  refine ⟨((s.push16 s.regs.pc).setPc target).instructionFinished, rfl, ?_, PushFrame.of w rfl⟩
  rw [State.instructionFinished_regs, State.setPc, State.push16_regs]

theorem restart_eq (n : Fin 8) (s : State) : restart n s = callTo (BitVec.ofNat 16 (8 * n.val)) s := by
  rw [restart, Nat.mul_comm]

/-! ### Returns (R308 to R310) -/

/-- R308: the registers after a pop into pc. -/
theorem State.pop16_setPc_regs (s : State) : (s.pop16.2.setPc s.pop16.1).regs =
    { s.regs with sp := s.regs.sp + 2, pc := (popReads s).1 } := by
  rw [State.pop16_eq]
  rfl

theorem returnTo_completes {s : State} (w : s.mem.wf = true) :
    ∃ t, returnTo s = .next t ∧ t.regs = { s.regs with sp := s.regs.sp + 2, pc := (popReads s).1 } ∧ PopFrame s t ∧
      t.ic = s.ic.instructionFinished := by
  refine ⟨(s.pop16.2.setPc s.pop16.1).instructionFinished, rfl, s.pop16_setPc_regs, PopFrame.of w ?_, ?_⟩
  · rw [State.instructionFinished, State.setPc]
  · simp

/-- R355, R356: with both delay counters disarmed, the end of the instruction changes nothing. -/
theorem IntCtl.enableNow_instructionFinished (c : IntCtl) : c.enableNow.instructionFinished = c.enableNow := rfl

theorem returnFromInterrupt_completes {s : State} (w : s.mem.wf = true) :
    ∃ t, returnFromInterrupt s = .next t ∧ t.regs = { s.regs with sp := s.regs.sp + 2, pc := (popReads s).1 } ∧
      PopFrame s t ∧ t.ic = { s.ic with ime := true, pendingEnable := none, pendingDisable := none } := by
  refine ⟨(s.pop16.2.setPc s.pop16.1).returnEnable.instructionFinished, rfl, s.pop16_setPc_regs, PopFrame.of w ?_, ?_⟩
  · rw [State.instructionFinished, State.returnEnable, State.setPc]
  · rw [State.instructionFinished_ic, State.returnEnable_ic, IntCtl.enableNow_instructionFinished, State.setPc_ic,
      State.pop16_ic, IntCtl.enableNow]

/-! ### Encodings and durations (R105, R110, R111, R421) -/

theorem form_jpCond (cc : Cond) (nn : Word) :
    CondForm (Instr.jpCond cc nn) cc [opByte 3 cc.code 2, loByte nn, hiByte nn] 4 3 := by
  cases cc <;> exact CondForm.word (Instr.jpCond _) rfl (by decide)

theorem form_jrCond (cc : Cond) (e : Byte) : CondForm (Instr.jrCond cc e) cc [opByte 0 (4 + cc.code) 0, e] 3 2 := by
  cases cc <;> exact CondForm.of rfl (by decide)

theorem form_callCond (cc : Cond) (nn : Word) :
    CondForm (Instr.callCond cc nn) cc [opByte 3 cc.code 4, loByte nn, hiByte nn] 6 3 := by
  cases cc <;> exact CondForm.word (Instr.callCond _) rfl (by decide)

theorem form_retCond (cc : Cond) : CondForm (Instr.retCond cc) cc [opByte 3 cc.code 0] 5 2 := by
  cases cc <;> exact CondForm.of rfl (by decide)

theorem form_rst (n : Fin 8) : Form (Instr.rst n) [opByte 3 n.val 7] 4 := by
  fin_cases n <;> exact Form.plain rfl (by decide)

/-! ### The obligations -/

/-- Settles O26: the three are `jumpTo` their targets, JP cc,a16 where cc holds. -/
theorem jump : Obligations.Jump := by
  unfold Obligations.Jump
  refine fun nn cc => ⟨Form.word .JP_a16 rfl (by decide), Form.plain rfl (by decide), form_jpCond cc nn, fun s => ?_⟩
  simp only [List.forall_mem_cons, exec_jpCond]
  exact ⟨jumpTo_completes nn s, jumpTo_completes s.hl s, jumpTo_or_done_completes (s.cond cc) nn s, List.forall_mem_nil _⟩

/-- Settles O27: both are `jumpTo` the displaced pc, JR cc,r8 where cc holds. -/
theorem jumpRelative : Obligations.JumpRelative := by
  unfold Obligations.JumpRelative
  refine fun e cc => ⟨Form.plain rfl (by decide), form_jrCond cc e, fun s => ?_⟩
  intro target
  have hjr : exec (.JR_r8 e) s = jumpTo target s := jumpBy_eq e s
  have hjrIf : jumpByIf cc e s = if s.cond cc then jumpTo target s else done s := by rw [jumpByIf, jumpBy_eq]
  simp only [List.forall_mem_cons, hjr, exec_jrCond, hjrIf]
  exact ⟨jumpTo_completes target s, jumpTo_or_done_completes (s.cond cc) target s, List.forall_mem_nil _⟩

/-- Settles O28: the three are `callTo` their targets, CALL cc,a16 where cc holds. -/
theorem callAndRestart : Obligations.CallAndRestart := by
  unfold Obligations.CallAndRestart
  refine fun nn cc n => ⟨Form.word .CALL_a16 rfl (by decide), form_rst n, form_callCond cc nn, fun s w => ?_⟩
  simp only [List.forall_mem_cons, exec_rst, restart_eq, exec_callCond, callIf]
  refine ⟨⟨callTo_completes w nn, callTo_completes w _, List.forall_mem_nil _⟩, fun hc => ?_, fun hc => ?_⟩
  · rw [if_pos hc]
    exact callTo_completes w nn
  · rw [if_neg (ne_true_of_eq_false hc)]
    exact done_completes s

/-- Settles O29: RET and RET cc, where cc holds, are `returnTo`; RETI is the same pop with the interrupts enabled after it. The
name has a namespace of its own because the bare word is a keyword. -/
theorem Control.return : Obligations.Return := by
  unfold Obligations.Return
  refine fun cc => ⟨Form.plain rfl (by decide), Form.plain rfl (by decide), form_retCond cc, fun s w => ?_⟩
  simp only [exec_retCond, returnIf]
  refine ⟨returnTo_completes w, fun hc => ?_, fun hc => ?_, returnFromInterrupt_completes w⟩
  · rw [if_pos hc]
    exact returnTo_completes w
  · rw [if_neg (ne_true_of_eq_false hc)]
    exact done_completes s

end Sys2Proof.Machine
end

section
/-! O44, O31, O32, O30 and O37: the interrupt controller's operations, and the system instructions. The delay counters are
said once, on the controller; what an instruction does to the rest of the machine is `exec_cases`. -/

namespace Sys2Proof.Machine

/-! ### The controller's operations (R354 to R356) -/

theorem IntCtl.enableDelayed_eq (c : IntCtl) : c.enableDelayed = { c with
    pendingDisable := none, pendingEnable := if c.pendingEnable = none then some .one else c.pendingEnable } := by
  unfold IntCtl.enableDelayed
  cases c.pendingEnable <;> rfl

theorem IntCtl.disableDelayed_late (c : IntCtl) : c.disableDelayed true = { c with
    pendingEnable := none, pendingDisable := if c.pendingDisable = none then some .one else c.pendingDisable } := by
  unfold IntCtl.disableDelayed
  cases c.pendingDisable <;> rfl

theorem IntCtl.disableDelayed_now (c : IntCtl) : c.disableDelayed false = c.disableNow := rfl

theorem IntCtl.instructionFinished_of_disarmed {c : IntCtl} (he : c.pendingEnable = none)
    (hd : c.pendingDisable = none) : c.instructionFinished = c := by
  simp [IntCtl.instructionFinished, IntCtl.stepEnable, IntCtl.stepDisable, he, hd]

theorem IntCtl.instructionFinished_of_enable_one {c : IntCtl} (he : c.pendingEnable = some .one)
    (hd : c.pendingDisable = none) : c.instructionFinished = { c with pendingEnable := some .zero } := by
  simp [IntCtl.instructionFinished, IntCtl.stepEnable, IntCtl.stepDisable, he, hd]

/-- The enable comes first and disarms the disable. -/
theorem IntCtl.instructionFinished_of_enable_zero {c : IntCtl} (he : c.pendingEnable = some .zero) :
    c.instructionFinished = c.enableNow := by
  simp [IntCtl.instructionFinished, IntCtl.stepEnable, IntCtl.stepDisable, he, IntCtl.enableNow]

theorem IntCtl.instructionFinished_of_disable_one {c : IntCtl} (he : c.pendingEnable = none)
    (hd : c.pendingDisable = some .one) : c.instructionFinished = { c with pendingDisable := some .zero } := by
  simp [IntCtl.instructionFinished, IntCtl.stepEnable, IntCtl.stepDisable, he, hd]

theorem IntCtl.instructionFinished_of_disable_zero {c : IntCtl} (he : c.pendingEnable = none)
    (hd : c.pendingDisable = some .zero) : c.instructionFinished = c.disableNow := by
  simp [IntCtl.instructionFinished, IntCtl.stepEnable, IntCtl.stepDisable, he, hd]

/-- Settles O44: each operation in each case of the two counters. -/
theorem enableDelayCounters : Obligations.EnableDelayCounters := by
  unfold Obligations.EnableDelayCounters
  refine fun c => ⟨c.enableDelayed_eq, rfl, rfl, rfl, c.disableDelayed_late, IntCtl.instructionFinished_of_disarmed,
    IntCtl.instructionFinished_of_enable_one, fun he => ?_, IntCtl.instructionFinished_of_disable_one, fun he hd => ?_⟩
  · rw [IntCtl.instructionFinished_of_enable_zero he, IntCtl.enableNow]
  · rw [IntCtl.instructionFinished_of_disable_zero he hd, IntCtl.disableNow, ← he]

/-- R350, R356: IME changes at the end of an instruction only where a counter is at its end. -/
theorem IntCtl.instructionFinished_ime {c : IntCtl} (he : c.pendingEnable ≠ some .zero)
    (hd : c.pendingDisable ≠ some .zero) : c.instructionFinished.ime = c.ime := by
  have hE : c.stepEnable.ime = c.ime ∧ c.stepEnable.pendingDisable = c.pendingDisable := by
    unfold IntCtl.stepEnable
    split <;> simp_all
  unfold IntCtl.instructionFinished IntCtl.stepDisable
  split
  · exact hE.1
  · rename_i h
    exact absurd (hE.2 ▸ h) hd
  · exact hE.1

/-! ### EI and DI (R332, R333) -/

/-- R333, R356: the controller after EI: an enable that was due happens, one that was not is now one instruction away. -/
theorem IntCtl.enableDelayed_instructionFinished (c : IntCtl) : c.enableDelayed.instructionFinished = { c with
    ime := if c.pendingEnable = some .zero then true else c.ime
    pendingEnable := if c.pendingEnable = some .zero then none else some .zero
    pendingDisable := none } := by
  rw [c.enableDelayed_eq]
  cases h : c.pendingEnable with
  | none => rfl
  | some d => cases d <;> rfl

/-- R332, R356: the controller after a DI that is delayed. -/
theorem IntCtl.disableDelayed_instructionFinished (c : IntCtl) : (c.disableDelayed true).instructionFinished = { c with
    ime := if c.pendingDisable = some .zero then false else c.ime
    pendingEnable := none
    pendingDisable := if c.pendingDisable = some .zero then none else some .zero } := by
  rw [c.disableDelayed_late]
  cases h : c.pendingDisable with
  | none => rfl
  | some d => cases d <;> rfl

/-- R332, R355: DI on a CGB with `DiDelayCgb`. -/
theorem exec_di_late {s : State} (h : s.cfg.gbc = true ∧ s.cfg.diDelayCgb = true) :
    exec .DI s = done { s with ic := s.ic.disableDelayed true } := by
  rw [← Bool.and_eq_true_iff.mpr h]
  rfl

/-- R332, R355: DI on every other machine. -/
theorem exec_di_now {s : State} (h : s.cfg.gbc = false ∨ s.cfg.diDelayCgb = false) :
    exec .DI s = done { s with ic := s.ic.disableNow } := by
  rw [← s.ic.disableDelayed_now, ← Bool.and_eq_false_iff.mpr h]
  rfl

/-- An instruction that reaches the interrupt controller only. -/
theorem done_withIc_frame (s : State) (c : IntCtl) : ∃ t, done { s with ic := c } = .next t ∧ t.regs = s.regs ∧
    SameInternal s t ∧ SameReach s t ∧ SameBytes s t ∧ t.ic = c.instructionFinished :=
  ⟨_, rfl, rfl, ⟨rfl, rfl, rfl, rfl, rfl, rfl, rfl, rfl, rfl⟩, ⟨rfl, rfl, rfl, rfl, rfl⟩, fun _ => rfl, rfl⟩

/-- Settles O31: both reach the controller only, with the operation and then the end of the instruction. -/
theorem enableDisableInterrupts : Obligations.EnableDisableInterrupts := by
  unfold Obligations.EnableDisableInterrupts
  refine ⟨Form.plain rfl (by decide), Form.plain rfl (by decide), fun s => ⟨?_, ?_⟩⟩
  · rw [← s.ic.enableDelayed_instructionFinished]
    exact done_withIc_frame s _
  · rw [← s.ic.disableDelayed_instructionFinished]
    split
    · rename_i hlate
      rw [exec_di_late hlate]
      exact done_withIc_frame s _
    · rename_i hnow
      rw [exec_di_now (by simpa using not_and_or.mp hnow)]
      exact done_withIc_frame s _

/-- R356: with an enable at its end, whatever ends through its micro-ops and is no DI ends with IME set and no counter
armed. -/
theorem exec_enables {i : Instr} {s t : State} (he : s.ic.pendingEnable = some .zero) (hi : i ∉ [Instr.HALT, .PREFIX_CB])
    (hstop : ∀ p, i ≠ .STOP p) (hdi : i ≠ .DI) (ht : exec i s = .next t) :
    t.ic.ime = true ∧ t.ic.pendingEnable = none ∧ t.ic.pendingDisable = none := by
  cases hspecial : Instr.special i with
  | false =>
    obtain ⟨u, hu, ho⟩ := exec_ordinary i s hspecial
    rw [hu] at ht
    cases ht
    rw [State.instructionFinished_ic, IntCtl.instructionFinished_of_enable_zero (ho.pendingEnable.trans he)]
    exact ⟨rfl, rfl, rfl⟩
  | true =>
    obtain rfl | rfl | rfl | rfl | rfl | ⟨pad, rfl⟩ | ⟨op, rfl⟩ := Instr.special_cases hspecial
    · cases ht
      rw [State.instructionFinished_ic, IntCtl.enableDelayed_instructionFinished]
      simp [he]
    · exact absurd rfl hdi
    · cases ht
      exact ⟨rfl, rfl, rfl⟩
    · exact absurd (by simp) hi
    · exact absurd (by simp) hi
    · exact absurd rfl (hstop pad)
    · cases ht

/-- Settles O32: EI leaves the enable at its end, and the next instruction's end is what acts on it. -/
theorem enableTakesEffectAfterNext : Obligations.EnableTakesEffectAfterNext := by
  unfold Obligations.EnableTakesEffectAfterNext
  intro s t u i he hd hi hstop ht hu
  have htic : t.ic = { s.ic with pendingEnable := some .zero } := by
    cases ht
    rw [State.instructionFinished_ic, IntCtl.enableDelayed_instructionFinished]
    simp [he, hd]
  have hcfg : t.cfg = s.cfg := by
    cases ht
    rfl
  refine ⟨by rw [htic], fun hdi => exec_enables (by rw [htic]) hi hstop hdi hu, ?_⟩
  rintro rfl hnow
  rw [exec_di_now (by rwa [hcfg])] at hu
  cases hu
  exact ⟨rfl, rfl, rfl⟩

/-! ### NOP, HALT and STOP (R330, R331, R334) -/

/-- R372. -/
theorem IntCtl.haltBug_eq_true_iff (c : IntCtl) :
    c.haltBug = true ↔ c.ime = false ∧ c.ifByte &&& c.ie &&& 0x1F ≠ 0 := by
  simp [IntCtl.haltBug, IntCtl.requested, and_comm]

theorem Speed.toggle_multiplier (sp : Speed) : sp.toggle.multiplier = 3 - sp.multiplier := by
  cases sp <;> rfl

/-- Settles O30: NOP is the end of an instruction alone; HALT and STOP have two outcomes each. -/
theorem noOperationHaltStop : Obligations.NoOperationHaltStop := by
  unfold Obligations.NoOperationHaltStop
  refine ⟨Form.plain rfl (by decide), Form.plain rfl (by decide), fun pad => Form.plain rfl (by decide),
    fun s => ⟨done_completes s, fun h => ?_, fun h => ?_, fun pad => ⟨fun h => ?_, fun h => ?_⟩⟩⟩
  · exact if_pos (s.ic.haltBug_eq_true_iff.mpr h)
  · exact if_neg (mt s.ic.haltBug_eq_true_iff.mp h)
  · exact ⟨_, if_pos (Bool.and_eq_true_iff.mpr h), s.speed.toggle_multiplier, rfl⟩
  · exact if_neg (mt Bool.and_eq_true_iff.mp h)

/-! ### What an instruction does to the mode of the machine (R139, R153, R350) -/

/-- R331: HALT reaches the phase and the halt-bug flag only. -/
theorem execHALT_frame {s t : State} (ht : execHALT s = .next t) : t.ic = s.ic ∧ t.speed = s.speed ∧
    t.cfg = s.cfg ∧ t.clockCycle = s.clockCycle ∧ t.bootRom = s.bootRom ∧ t.irq = s.irq := by
  unfold execHALT at ht
  split at ht <;> cases ht <;> exact ⟨rfl, rfl, rfl, rfl, rfl, rfl⟩

/-- R334: STOP reaches the speed and its switch, the phase, and the display. -/
theorem execSTOP_frame {pad : Byte} {s t : State} (ht : execSTOP pad s = .next t) : t.ic = s.ic ∧
    t.haltBug = s.haltBug ∧ t.cfg = s.cfg ∧ t.clockCycle = s.clockCycle ∧ t.bootRom = s.bootRom ∧ t.irq = s.irq := by
  unfold execSTOP at ht
  split at ht <;> cases ht <;> exact ⟨rfl, rfl, rfl, rfl, rfl, rfl⟩

/-- R350: while no delay counter is at its end, only RETI and DI change IME. EI arms a counter at most. -/
theorem exec_ime {i : Instr} {s t : State} (hi : i ∉ [Instr.RETI, .DI]) (he : s.ic.pendingEnable ≠ some .zero)
    (hd : s.ic.pendingDisable ≠ some .zero) (ht : exec i s = .next t) : t.ic.ime = s.ic.ime := by
  cases hspecial : Instr.special i with
  | false =>
    obtain ⟨u, hu, ho⟩ := exec_ordinary i s hspecial
    rw [hu] at ht
    cases ht
    exact (IntCtl.instructionFinished_ime (ho.pendingEnable ▸ he) (ho.pendingDisable ▸ hd)).trans ho.ime
  | true =>
    obtain rfl | rfl | rfl | rfl | rfl | ⟨pad, rfl⟩ | ⟨op, rfl⟩ := Instr.special_cases hspecial
    · cases ht
      rw [State.instructionFinished_ic, IntCtl.enableDelayed_instructionFinished]
      exact if_neg he
    · exact absurd (by simp) hi
    · exact absurd (by simp) hi
    · exact congrArg IntCtl.ime (execHALT_frame ht).1
    · cases ht
      rfl
    · exact congrArg IntCtl.ime (execSTOP_frame (pad := pad) ht).1
    · cases ht

/-- Settles O37: what ends through its micro-ops is `Ordinary` but for the interrupt controller; HALT, STOP and the CB byte
alone are looked at one by one. -/
theorem onlySystemInstructionsChangeMode : Obligations.OnlySystemInstructionsChangeMode := by
  unfold Obligations.OnlySystemInstructionsChangeMode
  intro i s t ht
  have hime := fun hi he hd => exec_ime (i := i) hi he hd ht
  obtain ⟨u, ho, rfl⟩ | ⟨u, enable, delayed, ho, rfl⟩ | ⟨rfl, hhalt⟩ | ⟨pad, rfl, hstop⟩ | ⟨rfl, hcb⟩ := exec_cases ht
  · exact ⟨fun _ _ => ho.phase, fun _ => ho.haltBug, fun _ => ho.speed, hime, ho.cfg, ho.clockCycle, ho.bootRom, ho.irq⟩
  · exact ⟨fun _ _ => ho.phase, fun _ => ho.haltBug, fun _ => ho.speed, hime, ho.cfg, ho.clockCycle, ho.bootRom, ho.irq⟩
  · obtain ⟨-, hspeed, hrest⟩ := execHALT_frame hhalt
    exact ⟨fun hi => absurd (by simp) hi, fun hi => absurd rfl hi, fun _ => hspeed, hime, hrest⟩
  · obtain ⟨-, hhaltBug, hrest⟩ := execSTOP_frame hstop
    exact ⟨fun _ hi => absurd rfl (hi pad), fun _ => hhaltBug, fun hi => absurd rfl (hi pad), hime, hrest⟩
  · cases hcb
    exact ⟨fun hi => absurd (by simp) hi, fun _ => rfl, fun _ => rfl, hime, rfl, rfl, rfl, rfl⟩

end Sys2Proof.Machine
end

section
/-! O49: the OAM DMA's window. The copy is an induction on the bytes copied. Its source lies below OAM, where the map is the
same with a transfer in progress as without. -/

namespace Sys2Proof.Machine

/-! ### The map and a transfer in progress (R75) -/

/-- R75: outside OAM the map does not depend on the DMA. -/
theorem State.place_withDma (s : State) (d : Option DmaTransfer) {a : Word} (h : a.toNat < 0xFE00 ∨ 0xFEA0 ≤ a.toNat) :
    ({ s with dma := d } : State).place a = s.place a := by
  have hmap : ({ s with dma := d } : State).gameBoyPlace a.toNat = s.gameBoyPlace a.toNat := by
    unfold State.gameBoyPlace
    obtain h | h := h
    · simp only [h, if_true]
      rfl
    · simp only [show ¬a.toNat < 0xFEA0 by omega, if_false]
      rfl
  unfold State.place
  rw [hmap]
  rfl

/-- A byte read outside OAM does not depend on the DMA. -/
theorem State.busRead_withDma (s : State) (d : Option DmaTransfer) {a : Word}
    (h : a.toNat < 0xFE00 ∨ 0xFEA0 ≤ a.toNat) : (({ s with dma := d } : State).busRead a).1 = (s.busRead a).1 := by
  unfold State.busRead
  rw [s.place_withDma d h]
  split <;> rfl

theorem State.place_dmaPage {s : State} (h : s.cfg.bus = .gameBoy) : s.place 0xFF46 = .dmaPage := by
  simp [State.place, State.gameBoyPlace, ioPlace, h]

/-! ### The copy (R377) -/

theorem State.dmaCopy_eq (s : State) (base k : Nat) : s.dmaCopy base k = { s with mem := (s.dmaCopy base k).mem } := by
  induction k with
  | zero => rfl
  | succ k ih =>
    simp only [State.dmaCopy]
    rw [ih]

theorem State.dmaCopy_wf (s : State) (w : s.mem.wf = true) (base k : Nat) : (s.dmaCopy base k).mem.wf = true := by
  induction k with
  | zero => exact w
  | succ k ih => exact Memory.write_wf _ _ ih

/-- Each byte of OAM copied so far is its source byte, and every other byte is as before. -/
theorem State.dmaCopy_read (s : State) (w : s.mem.wf = true) (base k a : Nat) : (s.dmaCopy base k).mem.read a =
    if 0xFE00 ≤ a ∧ a < 0xFE00 + k then s.dmaSource (base + (a - 0xFE00)) else s.mem.read a := by
  induction k with
  | zero =>
    rw [if_neg (by omega)]
    rfl
  | succ k ih =>
    simp only [State.dmaCopy, Memory.read_write (s.dmaCopy_wf w base k), ih]
    by_cases ha : a = 0xFE00 + k
    · rw [if_pos ha, if_pos (by omega), ha, Nat.add_sub_cancel_left]
    · rw [if_neg ha]
      exact if_congr (by omega) rfl rfl

/-- R377: the source of a page, as an address: 0x2000 lower from page 0xE0 on, so that it never lies in OAM. -/
theorem dmaSource_address (page : Byte) {k : Nat} (hk : k < 0x100) :
    (if 0xE000 ≤ page.toNat * 0x100 + k then page.toNat * 0x100 + k - 0x2000 else page.toNat * 0x100 + k) =
      page.toNat * 0x100 + k - (if 0xE0 ≤ page.toNat then 0x2000 else 0) ∧
    page.toNat * 0x100 + k - (if 0xE0 ≤ page.toNat then 0x2000 else 0) < 0xFE00 := by
  have := page.isLt
  split <;> split <;> omega

theorem State.dmaSource_withDma (s : State) (d : Option DmaTransfer) (page : Byte) {k : Nat} (hk : k < 0x100) :
    ({ s with dma := d } : State).dmaSource (page.toNat * 0x100 + k) = (s.busRead (BitVec.ofNat 16
      (page.toNat * 0x100 + k - if 0xE0 ≤ page.toNat then 0x2000 else 0))).1 := by
  obtain ⟨haddr, hlow⟩ := dmaSource_address page hk
  rw [State.dmaSource, haddr]
  refine s.busRead_withDma d (.inl ?_)
  rw [BitVec.toNat_ofNat]
  omega

/-! ### The window (R75, R377) -/

theorem State.dmaAdvance_counts {s : State} {d : DmaTransfer} {n : Nat} (hd : s.dma = some d) (hn : n < d.ticksLeft) :
    s.dmaAdvance n = { s with dma := some { d with ticksLeft := d.ticksLeft - n } } := by
  simp [State.dmaAdvance, hd, Nat.not_le_of_lt hn]

theorem State.dmaAdvance_closes {s : State} {d : DmaTransfer} {n : Nat} (hd : s.dma = some d) (hn : d.ticksLeft ≤ n) :
    s.dmaAdvance n = State.dmaCopy { s with dma := none } (d.page.toNat * 0x100) 160 := by
  simp [State.dmaAdvance, hd, hn]

/-- Settles O49: before its end the window counts, and at its end it is the copy of 160 bytes. -/
theorem oamDmaWindow : Obligations.OamDmaWindow := by
  unfold Obligations.OamDmaWindow
  refine ⟨fun s v hbus => ?_, fun s d n hd w => ⟨State.dmaAdvance_counts hd, fun hn => ?_⟩⟩
  · rw [State.busWrite, State.place_dmaPage hbus]
    rfl
  · rw [State.dmaAdvance_closes hd hn]
    have hread := State.dmaCopy_read { s with dma := none } w (d.page.toNat * 0x100) 160
    refine ⟨State.dmaCopy_eq { s with dma := none } _ _, State.dmaCopy_wf { s with dma := none } w _ _,
      fun k hk => ?_, fun k hk => ?_⟩
    · rw [hread, if_neg (by omega)]
    · rw [hread, if_pos (by omega), Nat.add_sub_cancel_left, s.dmaSource_withDma none d.page (by omega)]

end Sys2Proof.Machine
end

section
/-! O54: the two start states meet the invariant. What does not depend on the configuration is said once. -/

namespace Sys2Proof.Machine

/-- R45, R46, R403: both start states have empty memories, the divider at 0, single speed, the first banks, no counter armed
and no DMA; F is the one field of the data that differs. -/
theorem State.Inv.ofStart {s : State} (cfg : Config) (r : Regs) (mapped : Bool) (n : Nat)
    (hs : s = { State.powerOn cfg with regs := r, bootMapped := mapped, draws := n }) (hf : r.f &&& 0x0F = 0) : s.Inv := by
  subst hs
  exact
    { data :=
        { memCanonical := rfl
          memInSpace := nofun
          bootCanonical := rfl
          flagsLow := hf
          divider := Speed.ticksPerCycle_pos .single
          speedDmg := fun _ => ⟨rfl, rfl⟩
          banksDmg := fun _ => rfl
          oneCounter := .inl rfl
          dmaWindow := nofun }
      aligned := rfl
      boundary := rfl }

theorem State.initial_inv (cfg : Config) : (State.initial cfg).Inv := by
  cases h : cfg.launch with
  | powerOn =>
    rw [State.initial_of_powerOn h]
    exact .ofStart cfg _ true 0 rfl (by decide)
  | postBoot =>
    rw [State.initial_of_postBoot h]
    exact .ofStart cfg _ false _ rfl (State.postBoot_flagsLow cfg)

/-- Settles O54: reset is the start state of one configuration. -/
theorem resetMeetsInvariant : Obligations.ResetMeetsInvariant := by
  unfold Obligations.ResetMeetsInvariant
  exact ⟨State.initial_inv Config.default, State.initial_inv⟩

end Sys2Proof.Machine
end

section
/-! O39, O41 and O42: which interrupt is taken, and the stages of a dispatch, each an equation; the tick of the selection with
the other agents before and after the CPU. -/

namespace Sys2Proof.Machine

/-! ### The selection (R353, R362, R367) -/

theorem Irq.forall_iff {p : Irq → Prop} :
    (∀ j, p j) ↔ p .vblank ∧ p .lcdc ∧ p .timer ∧ p .serial ∧ p .joypad :=
  ⟨fun h => ⟨h _, h _, h _, h _, h _⟩, fun ⟨h0, h1, h2, h3, h4⟩ j => by cases j <;> assumption⟩

/-- R367: the first bit set, from bit 0 up, is the set bit below which none is set. -/
theorem selectIrq_eq_some_iff (f e : Byte) (i : Irq) : selectIrq f e = some i ↔
    (f &&& e).getLsbD i.ordinal = true ∧ ∀ j : Irq, j.ordinal < i.ordinal → (f &&& e).getLsbD j.ordinal = false := by
  rw [Irq.forall_iff]
  unfold selectIrq
  generalize f &&& e = m
  cases i <;> simp only [Irq.ordinal] <;> grind

theorem low5_eq_zero_iff : ∀ m : Byte, m &&& 0x1F = 0 ↔ m.getLsbD 0 = false ∧ m.getLsbD 1 = false ∧
    m.getLsbD 2 = false ∧ m.getLsbD 3 = false ∧ m.getLsbD 4 = false := by decide

theorem selectIrq_eq_none_iff (f e : Byte) : selectIrq f e = none ↔ f &&& e &&& 0x1F = 0 := by
  rw [low5_eq_zero_iff]
  unfold selectIrq
  dsimp only
  split_ifs <;> simp_all

/-- R360: an accepted interrupt has one to select. -/
theorem IntCtl.accepts_selects {c : IntCtl} (h : c.accepts = true) : ∃ i, selectIrq c.ifByte c.ie = some i := by
  have hreq : c.ifByte &&& c.ie &&& 0x1F ≠ 0 := of_decide_eq_true (Bool.and_eq_true_iff.mp h).2
  exact Option.ne_none_iff_exists'.mp (mt (selectIrq_eq_none_iff _ _).mp hreq)

theorem IntCtl.not_accepts {c : IntCtl} (h : c.ime = false) : c.accepts = false := by
  rw [IntCtl.accepts, h, Bool.false_and]

theorem Irq.ordinal_injective {i j : Irq} (h : i.ordinal = j.ordinal) : i = j := by
  cases i <;> cases j <;> first | rfl | cases h

theorem Irq.ordinal_lt (i : Irq) : i.ordinal < 5 := by cases i <;> decide

theorem IntCtl.acknowledge_other (c : IntCtl) {i j : Irq} (h : j ≠ i) :
    (c.acknowledge i).ifr.getLsbD j.ordinal = c.ifr.getLsbD j.ordinal := by
  have hne : i.ordinal ≠ j.ordinal := fun e => h (Irq.ordinal_injective e.symm)
  have hbit : ((1 : BitVec 5) <<< i.ordinal).getLsbD j.ordinal = false := by
    rw [show (1 : BitVec 5) <<< i.ordinal = BitVec.twoPow 5 i.ordinal from (BitVec.twoPow_eq 5 i.ordinal).symm,
      BitVec.getLsbD_twoPow]
    simp [hne]
  rw [IntCtl.acknowledge, BitVec.getLsbD_and, BitVec.getLsbD_not, hbit]
  simp [j.ordinal_lt]

/-! ### The stages (R361 to R365) -/

theorem irqReadIF_eq (s : State) :
    irqReadIF s = { s with irq := { s.irq with irqIF := s.ic.ifByte }, phase := .irqReadIE } := by
  rw [irqReadIF, State.busRead_if]

theorem irqReadIE_of_some {s : State} {i : Irq} (h : selectIrq s.irq.irqIF s.ic.ie = some i) :
    irqReadIE s = { s with
      irq := { s.irq with irqIE := s.ic.ie, requested := some i }
      ic := (s.ic.acknowledge i).disableNow
      phase := .irqPush1 } := by
  rw [irqReadIE, State.busRead_ie]
  dsimp only
  rw [h]

/-- D10. -/
theorem irqReadIE_of_none {s : State} (h : s.irq.irqIF &&& s.ic.ie &&& 0x1F = 0) :
    irqReadIE s = { s with irq := { s.irq with irqIE := s.ic.ie, requested := none }, phase := .opcode } := by
  rw [irqReadIE, State.busRead_ie]
  dsimp only
  rw [(selectIrq_eq_none_iff _ _).mpr h]

theorem irqJump_of_some {s : State} {i : Irq} (h : s.irq.requested = some i) : irqJump s = { s with
    regs := { s.regs with pc := i.handler }, irq := { s.irq with requested := none }, phase := .opcode } := by
  rw [irqJump, h]
  rfl

/-- Settles O39: the selection bit by bit, and the acknowledge of R362. -/
theorem lowestOrdinalServed : Obligations.LowestOrdinalServed := by
  unfold Obligations.LowestOrdinalServed
  refine ⟨selectIrq_eq_some_iff, selectIrq_eq_none_iff, rfl, rfl, rfl, rfl, rfl, fun s i h => ?_,
    fun c => IntCtl.not_accepts⟩
  rw [irqReadIE_of_some h]
  exact ⟨rfl, rfl, fun j hj => s.ic.acknowledge_other hj⟩

/-! ### The other agents in the tick of a selection (R359, R415) -/

/-- A request reaches IF only: also after something that reached IF only. -/
theorem State.requestIf_ifr {s u : State} (h : ∃ f, u = { s with ic := { s.ic with ifr := f } }) (b : Bool) (i : Irq) :
    ∃ f, u.requestIf b i = { s with ic := { s.ic with ifr := f } } := by
  obtain ⟨f, rfl⟩ := h
  cases b with
  | false => exact ⟨f, rfl⟩
  | true => exact ⟨_, rfl⟩

theorem State.agentWrite_if (s : State) (v : Option Byte) :
    ∃ f, s.agentWrite 0xFF0F v = { s with ic := { s.ic with ifr := f } } := by
  cases v with
  | none => exact ⟨s.ic.ifr, rfl⟩
  | some v => exact ⟨_, s.busWrite_if v⟩

theorem State.agentWrite_ie (s : State) (v : Option Byte) :
    s.agentWrite 0xFFFF v = { s with ic := { s.ic with ie := v.getD s.ic.ie } } := by
  cases v with
  | none => rfl
  | some v => exact s.busWrite_ie v

/-- The machine as the other agents leave it to the CPU in a tick (assumption 22). -/
def State.beforeCpu (s : State) (inp : TickInput) : State :=
  (((s.agentWrite 0xFF0F inp.writeIF).agentWrite 0xFFFF inp.writeIE).requestIf inp.joypad .joypad).requestIf
    inp.timer .timer

/-- They reach IF and IE only. -/
theorem State.beforeCpu_eq (s : State) (inp : TickInput) :
    ∃ f, s.beforeCpu inp = { s with ic := { s.ic with ifr := f, ie := inp.writeIE.getD s.ic.ie } } := by
  unfold State.beforeCpu
  obtain ⟨f, hf⟩ := s.agentWrite_if inp.writeIF
  rw [hf, State.agentWrite_ie]
  exact State.requestIf_ifr (s := { s with ic := { s.ic with ie := inp.writeIE.getD s.ic.ie } })
    (State.requestIf_ifr ⟨f, rfl⟩ _ _) _ _

/-- What comes after the CPU in a tick reaches IF, the DMA and the PPU's signals, and no latch, register or counter. -/
theorem tick_of_cpuTick {inp : TickInput} {s u : State} (hcpu : inp.hdma = none)
    (hu : cpuTick (s.beforeCpu inp) = .next u) : ∃ t, tick inp s = .next t ∧ t.phase = u.phase ∧ t.irq = u.irq ∧
      t.regs = u.regs ∧ ∃ f, t.ic = { u.ic with ifr := f } := by
  obtain ⟨f, hf⟩ := State.requestIf_ifr (State.requestIf_ifr (State.requestIf_ifr (s := u.dmaAdvance 1)
    ⟨_, rfl⟩ inp.serial .serial) inp.lcdc .lcdc) inp.vblank .vblank
  unfold State.beforeCpu at hu
  unfold tick
  dsimp only
  rw [hcpu]
  dsimp only
  rw [hu]
  refine ⟨_, rfl, ?_⟩
  rw [hf]
  exact ⟨u.dmaAdvance_phase 1, u.dmaAdvance_irq 1, u.dmaAdvance_regs 1, f, by rw [State.dmaAdvance_ic]⟩

/-- R362: the sub-step of the second read. -/
theorem cpuTick_irqReadIE {s : State} (hp : s.phase = .irqReadIE) (hk : s.speed.ticksPerCycle ≤ s.clockCycle + 1) :
    cpuTick s = .next (irqReadIE { s with clockCycle := 0 }) := by
  simp [cpuTick, hk, substep, hp, Phase.idle, irqSubstep]

/-- R415: the tick of the second read selects from IF as latched before and from IE as another agent's write leaves it. -/
theorem tick_irqReadIE {inp : TickInput} {s : State} (hp : s.phase = .irqReadIE)
    (hk : s.speed.ticksPerCycle ≤ s.clockCycle + 1) (hcpu : inp.hdma = none) :
    let ie := inp.writeIE.getD s.ic.ie
    (∀ i, selectIrq s.irq.irqIF ie = some i → ∃ t, tick inp s = .next t ∧
      t.phase = .irqPush1 ∧ t.irq = { irqIF := s.irq.irqIF, irqIE := ie, requested := some i } ∧ t.regs = s.regs ∧
      t.ic.ie = ie ∧ t.ic.ime = false ∧ t.ic.pendingEnable = none ∧ t.ic.pendingDisable = none) ∧
    (s.irq.irqIF &&& ie &&& 0x1F = 0 → ∃ t, tick inp s = .next t ∧
      t.phase = .opcode ∧ t.irq = { irqIF := s.irq.irqIF, irqIE := ie, requested := none } ∧ t.regs = s.regs ∧
      t.ic.ie = ie ∧ t.ic.ime = s.ic.ime ∧ t.ic.pendingEnable = s.ic.pendingEnable ∧
      t.ic.pendingDisable = s.ic.pendingDisable) := by
  intro ie
  obtain ⟨f, hf⟩ := s.beforeCpu_eq inp
  have hread : cpuTick (s.beforeCpu inp) =
      .next (irqReadIE { s with ic := { s.ic with ifr := f, ie := ie }, clockCycle := 0 }) := by
    rw [hf]
    exact cpuTick_irqReadIE hp hk
  refine ⟨fun i hi => ?_, fun hnone => ?_⟩
  · rw [irqReadIE_of_some (s := { s with ic := { s.ic with ifr := f, ie := ie }, clockCycle := 0 }) hi] at hread
    obtain ⟨t, ht, htp, htirq, htregs, g, htic⟩ := tick_of_cpuTick hcpu hread
    exact ⟨t, ht, htp, htirq, htregs, by rw [htic]; exact ⟨rfl, rfl, rfl, rfl⟩⟩
  · rw [irqReadIE_of_none (s := { s with ic := { s.ic with ifr := f, ie := ie }, clockCycle := 0 }) hnone] at hread
    obtain ⟨t, ht, htp, htirq, htregs, g, htic⟩ := tick_of_cpuTick hcpu hread
    exact ⟨t, ht, htp, htirq, htregs, by rw [htic]; exact ⟨rfl, rfl, rfl, rfl⟩⟩

/-- Settles O41: the two stages as equations, and the tick of the second with the other agents around it. -/
theorem dispatchSelects : Obligations.DispatchSelects := by
  unfold Obligations.DispatchSelects
  exact fun s => ⟨irqReadIF_eq s, congrArg Prod.fst s.busRead_if, congrArg Prod.fst s.busRead_ie,
    fun i hi => irqReadIE_of_some hi, irqReadIE_of_none, fun inp hp hk hcpu => tick_irqReadIE hp hk hcpu⟩

/-! ### The pushes and the jump (R363 to R365) -/

theorem State.pushByte_regs_eq (s : State) (ty : OamType) (v : Byte) : s.pushByte ty v =
    ((s.oamCheck ty s.regs.sp).setSp (s.regs.sp - 1)).busWrite (s.regs.sp - 1) v := by
  rw [State.pushByte, State.oamCheck_regs]
  rfl

/-- R131: with no interrupt accepted a sub-step at `Opcode` is the loop. -/
theorem substep_opcode {s : State} (hp : s.phase = .opcode) (ha : s.ic.accepts = false) :
    substep s = engineLoop loopFuel false s := by
  simp [substep, hp, ha, irqSubstep]

/-- R135: the loop begins with the fetch of the opcode, which uses the bus. -/
theorem engineLoop_fetches {fuel : Nat} {accessed : Bool} {s u : State} (hp : s.phase = .opcode)
    (hu : fetchState s = .next u) : engineLoop (fuel + 1) accessed s = engineLoop fuel true u := by
  rw [engineLoop, hp]
  dsimp only
  rw [hu]

theorem engineLoop_fetch_faults {fuel : Nat} {accessed : Bool} {s : State} {e : Fault} (hp : s.phase = .opcode)
    (he : fetchState s = .fault e) : engineLoop (fuel + 1) accessed s = .fault e := by
  rw [engineLoop, hp]
  dsimp only
  rw [he]

/-- Settles O42: the pushes are `pushByte`; after the jump IME is still 0, so the handler's opcode is fetched next. -/
theorem dispatchPushesAndJumps : Obligations.DispatchPushesAndJumps := by
  unfold Obligations.DispatchPushesAndJumps
  intro s
  refine ⟨?_, ?_, fun i hi => ?_⟩
  · rw [irqPush1, s.pushByte_regs_eq]
  · rw [irqPush2, s.pushByte_regs_eq]
  · refine ⟨irqJump_of_some hi, fun hime => ?_⟩
    have ha : (irqJump s).ic.accepts = false := by
      rw [irqJump_of_some hi]
      exact IntCtl.not_accepts hime
    have hp := irqJump_phase s
    refine ⟨ha, ?_, fun u hu => (substep_opcode hp ha).trans (engineLoop_fetches hp hu),
      fun e he => (substep_opcode hp ha).trans (engineLoop_fetch_faults hp he)⟩
    rw [State.fetchOpcode_byte, irqJump_of_some hi]

end Sys2Proof.Machine
end

section
/-! O40: a whole dispatch. It is the chain of its five stages with the OAM DMA's turns between them (`Dispatches`): no turns
where it is taken at once, the DMA's ticks where it is taken M-cycle by M-cycle. What is true of the state that ends the chain
is proved along it, first without and then with the two bytes pushed landing in cells. -/

namespace Sys2Proof.Machine

/-! ### The OAM DMA's turns (R75, R377) -/

/-- `t` is `s` after turns of the OAM DMA, or after none: the transfer and OAM apart nothing has changed, and without a transfer
nothing at all. -/
inductive DmaTurns (s : State) : State → Prop where
  | intro (d : Option DmaTransfer) (m : Memory) (idle : s.dma = none → d = none ∧ m = s.mem)
      (wf : s.mem.wf = true → m.wf = true)
      (read : s.mem.wf = true → ∀ k, k < 0xFE00 ∨ 0xFEA0 ≤ k → m.read k = s.mem.read k) :
      DmaTurns s { s with dma := d, mem := m }

namespace DmaTurns

theorem refl (s : State) : DmaTurns s s := ⟨s.dma, s.mem, fun h => ⟨h, rfl⟩, id, fun _ _ _ => rfl⟩

theorem trans {s t u : State} (h : DmaTurns s t) (h' : DmaTurns t u) : DmaTurns s u := by
  obtain ⟨d, m, idle, wf, read⟩ := h
  obtain ⟨d', m', idle', wf', read'⟩ := h'
  refine ⟨d', m', fun hd => ?_, fun w => wf' (wf w), fun w k hk => (read' (wf w) k hk).trans (read w k hk)⟩
  obtain ⟨hd', hm⟩ := idle hd
  obtain ⟨hd'', hm'⟩ := idle' hd'
  exact ⟨hd'', hm'.trans hm⟩

theorem dmaAdvance (s : State) (n : Nat) : DmaTurns s (s.dmaAdvance n) := by
  cases hd : s.dma with
  | none =>
    rw [s.dmaAdvance_idle n hd]
    exact refl s
  | some d =>
    by_cases hn : d.ticksLeft ≤ n
    · rw [State.dmaAdvance_closes hd hn, State.dmaCopy_eq]
      refine ⟨none, _, fun h => (by cases hd.symm.trans h), fun w => State.dmaCopy_wf { s with dma := none } w _ _,
        fun w k hk => ?_⟩
      rw [State.dmaCopy_read { s with dma := none } w, if_neg (by omega)]
    · rw [State.dmaAdvance_counts hd (Nat.lt_of_not_le hn)]
      exact ⟨_, s.mem, fun h => (by cases hd.symm.trans h), id, fun _ _ _ => rfl⟩

/-- The start of a dispatch looks at nothing the DMA reaches. -/
theorem start {s t : State} (h : DmaTurns s t) :
    DmaTurns (irqReadIF (acceptInterrupt s)) (irqReadIF (acceptInterrupt t)) := by
  obtain ⟨d, m, idle, wf, read⟩ := h
  have hdma : (acceptInterrupt s).dma = s.dma ∧ (acceptInterrupt s).mem = s.mem := by
    unfold acceptInterrupt
    split <;> exact ⟨rfl, rfl⟩
  have haccept : acceptInterrupt { s with dma := d, mem := m } = { acceptInterrupt s with dma := d, mem := m } := by
    unfold acceptInterrupt
    dsimp only
    split <;> rfl
  rw [← hdma.1, ← hdma.2] at idle
  rw [← hdma.2] at wf read
  rw [haccept, irqReadIF_eq, irqReadIF_eq]
  exact ⟨d, m, idle, wf, read⟩

end DmaTurns

/-! ### The stages in a row (R361 to R366) -/

/-- From `s` to `t` by the five stages of a dispatch, with turns of the OAM DMA after each. -/
def Dispatches (s t : State) : Prop :=
  ∃ s1 s2 s3 s4, DmaTurns (irqReadIF (acceptInterrupt s)) s1 ∧ DmaTurns (irqReadIE s1) s2 ∧
    DmaTurns (irqPush1 s2) s3 ∧ DmaTurns (irqPush2 s3) s4 ∧ DmaTurns (irqJump s4) t

/-- R336: accepting reaches the phase and, on leaving `Stopped`, the display. -/
theorem acceptInterrupt_eq (s : State) : acceptInterrupt s = { s with
    phase := .irqReadIF, ppu := (acceptInterrupt s).ppu, events := (acceptInterrupt s).events } := by
  unfold acceptInterrupt
  split <;> rfl

theorem acceptInterrupt_lcdEnabled (s : State) :
    (acceptInterrupt s).ppu.lcdEnabled = if s.phase = .stopped then true else s.ppu.lcdEnabled := by
  unfold acceptInterrupt
  split <;> rfl

/-- R362: the second stage of the dispatch that begins in `s`, where it selects `i`. -/
theorem irqReadIE_of_start {s s1 : State} {i : Irq} (hi : selectIrq s.ic.ifByte s.ic.ie = some i)
    (h1 : DmaTurns (irqReadIF (acceptInterrupt s)) s1) : irqReadIE s1 = { s with
      phase := .irqPush1, ppu := (acceptInterrupt s).ppu, events := (acceptInterrupt s).events,
      irq := { s.irq with irqIF := s.ic.ifByte, irqIE := s.ic.ie, requested := some i }
      ic := (s.ic.acknowledge i).disableNow, dma := s1.dma, mem := s1.mem } := by
  rw [irqReadIF_eq, acceptInterrupt_eq] at h1
  obtain ⟨d, m, -, -, -⟩ := h1
  exact irqReadIE_of_some hi

theorem takeInterrupt_dispatches {s : State} {i : Irq} (hi : selectIrq s.ic.ifByte s.ic.ie = some i) :
    Dispatches s (takeInterrupt s) := by
  have hp : (irqReadIE (irqReadIF (acceptInterrupt s))).phase = .irqPush1 := by
    rw [irqReadIE_of_start hi (.refl _)]
  have e : takeInterrupt s = irqJump (irqPush2 (irqPush1 (irqReadIE (irqReadIF (acceptInterrupt s))))) := by
    rw [takeInterrupt, hp, if_neg (by decide)]
  rw [e]
  exact ⟨_, _, _, _, .refl _, .refl _, .refl _, .refl _, .refl _⟩

/-- R78, R130: an M-cycle inside a dispatch is the stage of its phase, after turns of the DMA. -/
theorem mCycle_irqStage {w : State} {p : Phase} (f : State → State) (hp : w.phase = p) (hbusy : p.idle = false)
    (hf : ∀ u, u.phase = p → irqSubstep u = some (f u)) :
    ∃ v, DmaTurns w v ∧ mCycle (w.dmaAdvance 1) = .next ((f v).dmaAdvance 1) := by
  refine ⟨_, (DmaTurns.dmaAdvance w 1).trans (.dmaAdvance _ ((w.dmaAdvance 1).speed.ticksPerCycle - 1)), ?_⟩
  generalize hv : (w.dmaAdvance 1).dmaAdvance ((w.dmaAdvance 1).speed.ticksPerCycle - 1) = v
  have hvp : v.phase = p := by
    rw [← hv]
    simpa using hp
  have hsub : substep v = .next (f v) := by simp [substep, hvp, hbusy, hf v hvp]
  rw [mCycle, hv, hsub]

theorem mCycle_accept {s : State} (hidle : s.phase.idle = true) (ha : s.ic.accepts = true) :
    ∃ v, DmaTurns s v ∧ mCycle s = .next ((irqReadIF (acceptInterrupt v)).dmaAdvance 1) := by
  refine ⟨_, .dmaAdvance s (s.speed.ticksPerCycle - 1), ?_⟩
  simp [mCycle, substep, hidle, ha, irqSubstep, acceptInterrupt_phase]

theorem mCycles_busy {n : Nat} {s t : State} (ht : mCycle s = .next t) (hbusy : t.phase.idle = false) :
    mCycles (n + 1) s = mCycles n t := by
  rw [mCycles, ht]
  simp [hbusy]

theorem mCycles_boundary {n : Nat} {s t : State} (ht : mCycle s = .next t) (hidle : t.phase.idle = true) :
    mCycles (n + 1) s = .next t := by
  rw [mCycles, ht]
  simp [hidle]

theorem timedStep_dispatches {s : State} {i : Irq} (hidle : s.phase.idle = true) (ha : s.ic.accepts = true)
    (hi : selectIrq s.ic.ifByte s.ic.ie = some i) :
    ∃ t, timedStep s = .next { t with latch := s.latch } ∧ Dispatches s t := by
  obtain ⟨s0, h0, hm0⟩ := mCycle_accept hidle ha
  have hp0 : (irqReadIF (acceptInterrupt s0)).phase = .irqReadIE := rfl
  obtain ⟨s1, h1, hm1⟩ := mCycle_irqStage irqReadIE hp0 rfl fun u hu => by simp [irqSubstep, hu]
  have h01 := h0.start.trans h1
  have hp1 : (irqReadIE s1).phase = .irqPush1 := by rw [irqReadIE_of_start hi h01]
  obtain ⟨s2, h2, hm2⟩ := mCycle_irqStage irqPush1 hp1 rfl fun u hu => by simp [irqSubstep, hu]
  have hp2 : (irqPush1 s2).phase = .irqPush2 := rfl
  obtain ⟨s3, h3, hm3⟩ := mCycle_irqStage irqPush2 hp2 rfl fun u hu => by simp [irqSubstep, hu]
  have hp3 : (irqPush2 s3).phase = .irqJump := rfl
  obtain ⟨s4, h4, hm4⟩ := mCycle_irqStage irqJump hp3 rfl fun u hu => by simp [irqSubstep, hu]
  refine ⟨(irqJump s4).dmaAdvance 1, ?_, s1, s2, s3, s4, h01, h2, h3, h4, .dmaAdvance _ 1⟩
  have hrun : mCycles mCycleFuel s = .next ((irqJump s4).dmaAdvance 1) := by
    rw [mCycleFuel, mCycles_busy hm0 (by rw [State.dmaAdvance_phase, hp0]; rfl),
      mCycles_busy hm1 (by rw [State.dmaAdvance_phase, hp1]; rfl),
      mCycles_busy hm2 (by rw [State.dmaAdvance_phase, hp2]; rfl),
      mCycles_busy hm3 (by rw [State.dmaAdvance_phase, hp3]; rfl),
      mCycles_boundary hm4 (by rw [State.dmaAdvance_phase, irqJump_phase]; rfl)]
  rw [timedStep, hrun]

/-- R148: a step that accepts an interrupt is a dispatch, at once or M-cycle by M-cycle. -/
theorem step_dispatches {s : State} {i : Irq} (hidle : s.phase.idle = true) (ha : s.ic.accepts = true)
    (hi : selectIrq s.ic.ifByte s.ic.ie = some i) :
    ∃ t l, step s = .next { t with latch := l } ∧ Dispatches s t := by
  obtain ⟨-, e, -⟩ | e := step_cases hidle
  · refine ⟨takeInterrupt s, (takeInterrupt s).latch, ?_, takeInterrupt_dispatches hi⟩
    rw [e, cpuStep, if_pos ha]
  · obtain ⟨t, ht, h⟩ := timedStep_dispatches hidle ha hi
    exact ⟨t, s.latch, e.trans ht, h⟩

/-! ### What holds between the selection and the end -/

/-- In the dispatch of `i` from `s`, after its selection, SP being `sp` by now: what the pushes do not reach. -/
structure Dispatching (s : State) (i : Irq) (sp : Word) (t : State) : Prop where
  requested : t.irq.requested = some i
  regs : t.regs = { s.regs with sp := sp }
  ime : t.ic.ime = false
  pendingEnable : t.ic.pendingEnable = none
  pendingDisable : t.ic.pendingDisable = none
  haltBug : t.haltBug = s.haltBug
  speed : t.speed = s.speed
  cfg : t.cfg = s.cfg
  ppu : t.ppu = (acceptInterrupt s).ppu

namespace Dispatching

variable {s t u : State} {i : Irq} {sp : Word}

theorem turns (h : Dispatching s i sp t) (hu : DmaTurns t u) : Dispatching s i sp u := by
  obtain ⟨d, m, -, -, -⟩ := hu
  exact { h with }

theorem push (h : Dispatching s i sp t) (ty : OamType) (v : Byte) (p : Phase) :
    Dispatching s i (sp - 1) { t.pushByte ty v with phase := p } := by
  have ho := Ordinary.pushByte t ty v
  exact
    { requested := ho.irq ▸ h.requested
      regs := by
        show (t.pushByte ty v).regs = _
        rw [State.pushByte_regs, h.regs]
      ime := ho.ime.trans h.ime
      pendingEnable := ho.pendingEnable.trans h.pendingEnable
      pendingDisable := ho.pendingDisable.trans h.pendingDisable
      haltBug := ho.haltBug.trans h.haltBug
      speed := ho.speed.trans h.speed
      cfg := ho.cfg.trans h.cfg
      ppu := ho.ppu.trans h.ppu }

theorem ofSelection {s1 : State} (hi : selectIrq s.ic.ifByte s.ic.ie = some i)
    (h1 : DmaTurns (irqReadIF (acceptInterrupt s)) s1) : Dispatching s i s.regs.sp (irqReadIE s1) := by
  rw [irqReadIE_of_start hi h1]
  exact ⟨rfl, rfl, rfl, rfl, rfl, rfl, rfl, rfl, rfl⟩

end Dispatching

/-- R75: while a transfer is in progress OAM is no cell. -/
theorem State.place_blocked {s : State} {a : Word} {d : DmaTransfer} (hbus : s.cfg.bus = .gameBoy) (hd : s.dma = some d)
    (hlo : 0xFE00 ≤ a.toNat) (hhi : a.toNat < 0xFEA0) : s.place a = .void := by
  unfold State.place State.gameBoyPlace
  rw [hbus]
  dsimp only
  rw [if_neg (by omega), if_neg (by omega), if_neg (by omega), if_neg (by omega), if_neg (by omega), if_pos hhi, hd]
  rfl

/-- R75: an address that reaches a cell reaches the same one after turns of the DMA. -/
theorem State.storeCell_of_fewerDma {s t : State} (hc : t.cfg = s.cfg) (hb : t.bootMapped = s.bootMapped)
    (hk : t.banks = s.banks) (hd : s.dma = none → t.dma = none) {a : Word} {k : Nat} (h : s.storeCell a = some k) :
    t.storeCell a = some k := by
  suffices e : t.place a = s.place a by rwa [State.storeCell, e]
  by_cases hout : a.toNat < 0xFE00 ∨ 0xFEA0 ≤ a.toNat
  · rw [← t.place_withDma s.dma hout]
    exact State.place_congr (t := { t with dma := s.dma }) hc hb hk rfl a
  · cases hsd : s.dma with
    | none => exact State.place_congr hc hb hk ((hd hsd).trans hsd.symm) a
    | some d =>
      cases hbus : s.cfg.bus with
      | flat => simp only [State.place, State.flatPlace, hc, hbus]
      | gameBoy =>
        have hvoid := State.place_blocked (a := a) hbus hsd (by omega) (by omega)
        rw [State.storeCell, hvoid] at h
        cases h

/-- In the dispatch of `i` from `s`, after its selection, where the bytes pushed land in cells: the whole controller, and what
memory reads as, but for OAM while a transfer is in progress. -/
structure DispatchBytes (s : State) (i : Irq) (bytes : Nat → Byte) (t : State) : Prop where
  ic : t.ic = (s.ic.acknowledge i).disableNow
  bootMapped : t.bootMapped = s.bootMapped
  banks : t.banks = s.banks
  dma : s.dma = none → t.dma = none
  wf : t.mem.wf = true
  read : ∀ k, s.dma = none ∨ k < 0xFE00 ∨ 0xFEA0 ≤ k → t.mem.read k = bytes k

namespace DispatchBytes

variable {s t u : State} {i : Irq} {sp : Word} {bytes : Nat → Byte}

theorem turns (h : DispatchBytes s i bytes t) (hu : DmaTurns t u) : DispatchBytes s i bytes u := by
  obtain ⟨d, m, idle, wf, read⟩ := hu
  refine { h with dma := fun hd => (idle (h.dma hd)).1, wf := wf h.wf, read := fun k hk => ?_ }
  rw [← h.read k hk]
  obtain hd | hk := hk
  · exact congrArg (Memory.read · k) (idle (h.dma hd)).2
  · exact read h.wf k hk

/-- R66: the byte pushed, and no other. -/
theorem push (h : DispatchBytes s i bytes t) (hd : Dispatching s i sp t) (ho : (acceptInterrupt s).oamWindow = false)
    {a : Nat} (ha : s.storeCell (sp - 1) = some a) (ty : OamType) (v : Byte) (p : Phase) :
    DispatchBytes s i (Function.update bytes a v) { t.pushByte ty v with phase := p } := by
  have hsp : t.regs.sp = sp := by rw [hd.regs]
  have hcell : t.storeCell (t.regs.sp - 1) = some a := by
    rw [hsp]
    exact State.storeCell_of_fewerDma hd.cfg h.bootMapped h.banks h.dma ha
  have hclosed : t.oamWindow = false := by
    rw [← ho]
    exact State.oamWindow_congr (hd.cfg.trans (by rw [acceptInterrupt_eq])) hd.ppu
  rw [State.pushByte_cell hclosed hcell]
  refine { h with wf := Memory.write_wf a v h.wf, read := fun k hk => ?_ }
  dsimp only
  rw [Memory.read_write h.wf, h.read k hk, Function.update_apply]

theorem ofSelection {s1 : State} (w : s.mem.wf = true) (hi : selectIrq s.ic.ifByte s.ic.ie = some i)
    (h1 : DmaTurns (irqReadIF (acceptInterrupt s)) s1) : DispatchBytes s i s.mem.read (irqReadIE s1) := by
  have e := irqReadIE_of_start hi h1
  rw [irqReadIF_eq, acceptInterrupt_eq] at h1
  obtain ⟨d, m, idle, wf, read⟩ := h1
  rw [e]
  refine ⟨rfl, rfl, rfl, fun hd => (idle hd).1, wf w, fun k hk => ?_⟩
  obtain hd | hk := hk
  · exact congrArg (Memory.read · k) (idle hd).2
  · exact read w k hk

end DispatchBytes

/-! ### The end of a dispatch -/

theorem Irq.handler_eq (i : Irq) : i.handler = BitVec.ofNat 16 (0x40 + 8 * i.ordinal) := by cases i <;> rfl

/-- R363 to R365: SP is two lower, pc is the handler, and what held before the pushes still holds. -/
theorem Dispatches.ends {s t : State} {i : Irq} (h : Dispatches s t) (hi : selectIrq s.ic.ifByte s.ic.ie = some i) :
    t.regs = { s.regs with sp := s.regs.sp - 2, pc := BitVec.ofNat 16 (0x40 + 8 * i.ordinal) } ∧ t.phase = .opcode ∧
      t.ic.ime = false ∧ t.ic.pendingEnable = none ∧ t.ic.pendingDisable = none ∧ t.haltBug = s.haltBug ∧
      t.speed = s.speed ∧ t.cfg = s.cfg ∧
      t.ppu.lcdEnabled = (if s.phase = .stopped then true else s.ppu.lcdEnabled) := by
  obtain ⟨s1, s2, s3, s4, h1, h2, h3, h4, h5⟩ := h
  have hd : Dispatching s i (s.regs.sp - 1 - 1) s4 :=
    (((((Dispatching.ofSelection hi h1).turns h2).push _ _ _).turns h3).push _ _ _).turns h4
  rw [irqJump_of_some hd.requested] at h5
  obtain ⟨d, m, -, -, -⟩ := h5
  refine ⟨?_, rfl, hd.ime, hd.pendingEnable, hd.pendingDisable, hd.haltBug, hd.speed, hd.cfg, ?_⟩
  · have hsp : s.regs.sp - 1 - 1 = s.regs.sp - 2 := by bv_omega
    dsimp only
    rw [hd.regs, hsp, i.handler_eq]
  · dsimp only
    rw [hd.ppu, acceptInterrupt_lcdEnabled]

/-- R361 to R366, where no OAM check can fire and both bytes land in cells. -/
theorem Dispatches.bytes {s t : State} {i : Irq} {a b : Nat} (h : Dispatches s t)
    (hi : selectIrq s.ic.ifByte s.ic.ie = some i) (ho : (acceptInterrupt s).oamWindow = false) (w : s.mem.wf = true)
    (ha : s.storeCell (s.regs.sp - 1) = some a) (hb : s.storeCell (s.regs.sp - 2) = some b) :
    DispatchBytes s i (Function.update (Function.update s.mem.read a (hiByte s.regs.pc)) b (loByte s.regs.pc)) t := by
  obtain ⟨s1, s2, s3, s4, h1, h2, h3, h4, h5⟩ := h
  have hsp : s.regs.sp - 1 - 1 = s.regs.sp - 2 := by bv_omega
  have c2 := (Dispatching.ofSelection hi h1).turns h2
  have c3 := (c2.push .push1 (hiByte s2.regs.pc) .irqPush2).turns h3
  have c4 := (c3.push .push2 (loByte s3.regs.pc) .irqJump).turns h4
  have m2 := (DispatchBytes.ofSelection w hi h1).turns h2
  have m3 := (m2.push c2 ho ha .push1 (hiByte s2.regs.pc) .irqPush2).turns h3
  have m4 := (m3.push c3 ho (hsp ▸ hb) .push2 (loByte s3.regs.pc) .irqJump).turns h4
  have hpc2 : s2.regs.pc = s.regs.pc := by rw [c2.regs]
  have hpc3 : s3.regs.pc = s.regs.pc := by rw [c3.regs]
  rw [hpc2, hpc3] at m4
  rw [irqJump_of_some c4.requested] at h5
  exact DispatchBytes.turns (t := { s4 with
    regs := { s4.regs with pc := i.handler }, irq := { s4.irq with requested := none }, phase := .opcode }) { m4 with } h5

/-- Settles O40: a step that accepts is a dispatch, whichever way it is taken. -/
theorem interruptDispatch : Obligations.InterruptDispatch := by
  unfold Obligations.InterruptDispatch
  intro s hidle ha
  obtain ⟨i, hi⟩ := IntCtl.accepts_selects ha
  obtain ⟨t, l, hstep, h⟩ := step_dispatches hidle ha hi
  obtain ⟨hregs, hp, hime, he, hd, hbug, hspeed, hcfg, hlcd⟩ := h.ends hi
  refine ⟨i, _, hstep, hi, hregs, hp, hime, he, hd, hbug, hspeed, hcfg, hlcd, fun a b ho w hca hcb hab => ?_⟩
  have m := h.bytes hi ho w hca hcb
  refine ⟨(congrArg IntCtl.ie m.ic :), (congrArg IntCtl.ifr m.ic :), fun k hk => ?_⟩
  rw [m.read k hk]
  simp only [Function.update_apply]
  by_cases hka : k = a
  · rw [if_neg (hka ▸ hab), if_pos hka, if_pos hka]
  · rw [if_neg hka, if_neg hka]

end Sys2Proof.Machine
end

section
/-! O11, O45, O47: the bus's cells and its map. A read after a write and a pop after a push are facts about cells; the map is gone
through range by range, each range's place being stated once. -/

namespace Sys2Proof.Machine

/-! ### Cells (R60, R66, R67, R77, R84) -/

/-- R60: a store into a cell does not move any cell. -/
theorem State.storeCell_busWrite {s : State} {a : Word} {k : Nat} (h : s.storeCell a = some k) (v : Byte) (b : Word) :
    (s.busWrite a v).storeCell b = s.storeCell b := by
  rw [State.busWrite_cell h]
  exact State.storeCell_congr rfl rfl rfl rfl b

/-- R84: on FlatBus every address but IF, IE and, on CGB, KEY1 is a cell of its own. -/
theorem State.storeCell_flat {s : State} {a : Word} (hbus : s.cfg.bus = .flat) (hif : a ≠ 0xFF0F) (hie : a ≠ 0xFFFF)
    (hkey : a ≠ 0xFF4D ∨ s.cfg.gbc = false) : s.storeCell a = some a.toNat := by
  have hne : ∀ {n : Nat}, a ≠ BitVec.ofNat 16 n → n < 2 ^ 16 → a.toNat ≠ n := fun ha hn h =>
    ha (BitVec.eq_of_toNat_eq (by rw [BitVec.toNat_ofNat, Nat.mod_eq_of_lt hn, h]))
  have hkey' : ¬(a.toNat = 0xFF4D ∧ s.cfg.gbc = true) := by
    rintro ⟨ha, hgbc⟩
    obtain h | h := hkey
    · exact hne h (by decide) ha
    · exact absurd (hgbc.symm.trans h) (by decide)
  rw [State.storeCell, State.place, hbus]
  dsimp only
  rw [State.flatPlace, if_neg (hne hif (by decide)), if_neg (hne hie (by decide)), if_neg hkey']

/-- Settles O47: by the cell the address reaches, which the write does not move. -/
theorem readAfterWrite : Obligations.ReadAfterWrite := by
  unfold Obligations.ReadAfterWrite
  refine ⟨fun s a v k w hk => ⟨?_, State.busWrite_wf s w a v, fun j hj => ?_⟩, fun s a => State.storeCell_flat⟩
  · rw [State.busRead_cell ((State.storeCell_busWrite hk v a).trans hk), State.busWrite_read s w, if_pos hk]
  · rw [State.busWrite_read s w, hk, if_neg fun h => hj (Option.some.inj h).symm]

/-- Settles O11: the two bytes lie in the two cells, from which the pop reads them. -/
theorem popAfterPush : Obligations.PopAfterPush := by
  unfold Obligations.PopAfterPush
  intro s v a b w ho ha hb hab
  have hsp : s.regs.sp - 2 + 1 = s.regs.sp - 1 ∧ s.regs.sp - 2 + 2 = s.regs.sp := by constructor <;> bv_omega
  have hlo : (s.push16 v).mem.read b = loByte v := by
    rw [State.push16_cell ho ha hb]
    dsimp only
    rw [Memory.read_write (Memory.write_wf _ _ w), if_pos rfl]
  have hhi : (s.push16 v).mem.read a = hiByte v := by
    rw [State.push16_cell ho ha hb]
    dsimp only
    rw [Memory.read_write (Memory.write_wf _ _ w), if_neg hab, Memory.read_write w, if_pos rfl]
  have hcell : ∀ c, (s.push16 v).storeCell c = s.storeCell c := fun c => by
    rw [State.push16_cell ho ha hb]
    exact State.storeCell_congr rfl rfl rfl rfl c
  have hregs : (s.push16 v).regs = { s.regs with sp := s.regs.sp - 2 } := by rw [State.push16_cell ho ha hb]
  have hpop := State.pop16_cell (s := s.push16 v) (a := a) (b := b)
    (by rw [State.push16_cell ho ha hb]; exact ho) (by rw [hregs, hcell]; exact hb)
    (by rw [hregs, hcell]; dsimp only; rw [hsp.1]; exact ha)
  rw [hpop, hlo, hhi, hregs]
  refine ⟨pairOf_bytes v, ?_, rfl, rfl⟩
  dsimp only
  rw [hsp.2]

/-! ### The map of the Game Boy, range by range (R71 to R73, R75) -/

section Map

variable {s : State} {a : Word}

/-- R68: void reads 0xFF and ignores writes. -/
theorem State.void_access (h : s.place a = .void) (v : Byte) : (s.busRead a).1 = 0xFF ∧ s.busWrite a v = s := by
  simp [State.busRead, State.busWrite, h]

theorem State.storeCell_of_ram {k : Nat} (h : s.place a = .ram k) : s.storeCell a = some k := by
  rw [State.storeCell, h]

theorem State.place_gameBoy (hbus : s.cfg.bus = .gameBoy) : s.place a = s.gameBoyPlace a.toNat := by
  rw [State.place, hbus]

theorem State.gameBoyPlace_rom {n : Nat} (h : n < 0x8000) :
    s.gameBoyPlace n = if s.bootMapped && bootCovers s.cfg.gbc n then .boot n else .rom n := by
  rw [State.gameBoyPlace, if_pos h]

theorem State.gameBoyPlace_vram {n : Nat} (hlo : 0x8000 ≤ n) (hhi : n < 0xA000) :
    s.gameBoyPlace n = .ram (s.vramCell n) := by
  simp [State.gameBoyPlace, hhi, Nat.not_lt_of_le hlo]

theorem State.gameBoyPlace_cartRam {n : Nat} (hlo : 0xA000 ≤ n) (hhi : n < 0xC000) :
    s.gameBoyPlace n = if s.cfg.cartRam then .ram n else .void := by
  simp [State.gameBoyPlace, hhi, Nat.not_lt_of_le hlo, show ¬n < 0x8000 by omega]

theorem State.gameBoyPlace_wram {n : Nat} (hlo : 0xC000 ≤ n) (hhi : n < 0xE000) :
    s.gameBoyPlace n = .ram (s.wramCell n) := by
  simp [State.gameBoyPlace, hhi, Nat.not_lt_of_le hlo, show ¬n < 0x8000 by omega, show ¬n < 0xA000 by omega]

theorem State.gameBoyPlace_echo {n : Nat} (hlo : 0xE000 ≤ n) (hhi : n < 0xFE00) :
    s.gameBoyPlace n = s.gameBoyPlace (n - 0x2000) := by
  rw [State.gameBoyPlace_wram (n := n - 0x2000) (by omega) (by omega)]
  simp [State.gameBoyPlace, hhi, Nat.not_lt_of_le hlo, show ¬n < 0x8000 by omega, show ¬n < 0xA000 by omega,
    show ¬n < 0xC000 by omega]

/-- From OAM on. -/
theorem State.gameBoyPlace_high {n : Nat} (h : 0xFE00 ≤ n) : s.gameBoyPlace n =
    if n < 0xFEA0 then (if s.dma.isSome then .void else .ram n)
    else if n < 0xFF00 then .void
    else if n < 0xFF80 then ioPlace s.cfg.gbc n
    else if n < 0xFFFF then .ram n
    else .ieReg := by
  simp only [State.gameBoyPlace, if_neg (show ¬n < 0x8000 by omega), if_neg (show ¬n < 0xA000 by omega),
    if_neg (show ¬n < 0xC000 by omega), if_neg (show ¬n < 0xE000 by omega), if_neg (show ¬n < 0xFE00 by omega)]

theorem State.vramCell_eq {n : Nat} (h : 0x8000 ≤ n) :
    s.vramCell n = if s.cfg.gbc = true ∧ s.banks.vram = 1 then n + 0x8000 else n := by
  simp only [State.vramCell, Bool.and_eq_true, beq_iff_eq]
  refine ite_congr rfl (fun _ => ?_) fun _ => rfl
  omega

theorem State.wramCell_eq {n : Nat} : s.wramCell n =
    if s.cfg.gbc = true ∧ 0xD000 ≤ n ∧ 2 ≤ s.banks.wram.toNat then n + 0x3000 + 0x1000 * s.banks.wram.toNat else n := by
  simp only [State.wramCell, Bool.and_eq_true, decide_eq_true_eq, and_assoc]
  refine ite_congr rfl (fun h => ?_) fun _ => rfl
  obtain ⟨-, hn, hw⟩ := h
  omega

theorem bootCovers_iff (g : Bool) (n : Nat) :
    bootCovers g n = true ↔ n < 0x100 ∨ g = true ∧ 0x200 ≤ n ∧ n < 0x900 := by
  simp only [bootCovers, Bool.or_eq_true, Bool.and_eq_true, decide_eq_true_eq, and_assoc]

/-- R71, R73: below 0x8000 there is a ROM, which ignores writes: the boot ROM where it covers the address, else the cartridge's. -/
theorem State.rom_access (hbus : s.cfg.bus = .gameBoy) (h : a.toNat < 0x8000) (v : Byte) :
    s.storeCell a = none ∧ s.busWrite a v = s ∧ s.busRead a =
      (if s.bootMapped = true ∧ (a.toNat < 0x100 ∨ s.cfg.gbc = true ∧ 0x200 ≤ a.toNat ∧ a.toNat < 0x900)
        then s.bootRom.read a.toNat else s.mem.read a.toNat, s) := by
  have hplace : s.place a = _ := (State.place_gameBoy hbus).trans (State.gameBoyPlace_rom h)
  simp only [← bootCovers_iff, ← Bool.and_eq_true]
  cases hc : s.bootMapped && bootCovers s.cfg.gbc a.toNat <;>
    simp [State.storeCell, State.busWrite, State.busRead, hplace, hc]

end Map

/-! ### The bank registers (R72) -/

theorem State.vramBankByte_selected (s : State) (free : Byte) :
    (s.vramBankByte free).extractLsb' 0 1 = s.banks.vram := by
  unfold State.vramBankByte
  ext i hi
  obtain rfl : i = 0 := by omega
  simp

theorem State.wramBankByte_selected (s : State) (free : Byte) :
    (s.wramBankByte free).extractLsb' 0 3 = s.banks.wram := by
  unfold State.wramBankByte
  ext i hi
  interval_cases i <;> simp

/-- Settles O45: range by range, each by its place. -/
theorem gameBoyMap : Obligations.GameBoyMap := by
  unfold Obligations.GameBoyMap
  intro s a v hbus
  dsimp only
  have hplace : ∀ c, s.place c = s.gameBoyPlace c.toNat := fun c => State.place_gameBoy hbus
  refine ⟨fun h => State.rom_access hbus h v, fun hlo hhi => ?_, fun hlo hhi => ?_, fun hlo hhi => ?_, fun hlo hhi => ?_,
    fun hlo hhi => ?_, fun hlo hhi => ?_, fun hlo hhi => ?_, ?_, fun hgbc => ?_, fun hgbc r hr => ?_⟩
  · rw [← State.vramCell_eq hlo]
    exact State.storeCell_of_ram ((hplace a).trans (State.gameBoyPlace_vram hlo hhi))
  · have h := (hplace a).trans (State.gameBoyPlace_cartRam hlo hhi)
    split <;> rename_i hram
    · exact State.storeCell_of_ram (h.trans (if_pos hram))
    · exact State.void_access (h.trans (if_neg hram)) v
  · rw [← State.wramCell_eq]
    exact State.storeCell_of_ram ((hplace a).trans (State.gameBoyPlace_wram hlo hhi))
  · have hlow : (a - 0x2000).toNat = a.toNat - 0x2000 := by bv_omega
    have h : s.place a = s.place (a - 0x2000) := by
      rw [hplace, hplace, hlow, State.gameBoyPlace_echo hlo hhi]
    refine ⟨by rw [State.storeCell, State.storeCell, h], ?_⟩
    rw [State.busRead, State.busRead, h]
  · have h := (hplace a).trans ((State.gameBoyPlace_high hlo).trans (if_pos hhi))
    split <;> rename_i hdma
    · exact State.void_access (h.trans (if_pos hdma)) v
    · exact State.storeCell_of_ram (h.trans (if_neg hdma))
  · refine State.void_access ((hplace a).trans ((State.gameBoyPlace_high (by omega)).trans ?_)) v
    rw [if_neg (by omega), if_pos hhi]
  · refine State.storeCell_of_ram ((hplace a).trans ((State.gameBoyPlace_high (by omega)).trans ?_))
    rw [if_neg (by omega), if_neg (by omega), if_neg (by omega), if_pos hhi]
  · have h : s.place 0xFF50 = .bootOff := hplace _
    rw [State.busWrite, h]
  · have hv : s.place 0xFF4F = .vramBank := by simp [hplace, State.gameBoyPlace, ioPlace, hgbc]
    have hw : s.place 0xFF70 = .wramBank := by simp [hplace, State.gameBoyPlace, ioPlace, hgbc]
    refine ⟨by rw [State.busWrite, hv]; rfl, by rw [State.busWrite, hw]; rfl, ?_, ?_⟩
    · rw [State.busRead, hv]
      exact s.vramBankByte_selected _
    · rw [State.busRead, hw]
      exact s.wramBankByte_selected _
  · refine State.void_access ?_ v
    obtain rfl | rfl : r = 0xFF4F ∨ r = 0xFF70 := by simpa using hr
    all_goals simp [hplace, State.gameBoyPlace, ioPlace, hgbc]

end Sys2Proof.Machine
end

section
/-! The step as M-cycles and the M-cycles as ticks (R78, R130, R148). `Ends` is a row of sub-steps up to a boundary with the OAM
DMA's ticks between them; both `timedStep` and `quietTicks` take that row. -/

namespace Sys2Proof.Machine

/-! ### A quiet tick (R5, R78, R130) -/

theorem State.busRead_withClock (s : State) (c : Nat) (a : Word) :
    ({ s with clockCycle := c } : State).busRead a = ((s.busRead a).1, { (s.busRead a).2 with clockCycle := c }) := by
  have h : ({ s with clockCycle := c } : State).place a = s.place a := State.place_congr rfl rfl rfl rfl a
  unfold State.busRead
  rw [h]
  split <;> rfl

/-- The OAM DMA does not look at the CPU's divider. -/
theorem State.dmaCopy_withClock (s : State) (c base k : Nat) :
    ({ s with clockCycle := c } : State).dmaCopy base k = { s.dmaCopy base k with clockCycle := c } := by
  induction k with
  | zero => rfl
  | succ k ih => simp only [State.dmaCopy, ih, State.dmaSource, State.busRead_withClock]

theorem State.dmaAdvance_withClock (s : State) (c n : Nat) :
    ({ s with clockCycle := c } : State).dmaAdvance n = { s.dmaAdvance n with clockCycle := c } := by
  unfold State.dmaAdvance
  dsimp only
  split
  · rfl
  · split
    · exact State.dmaCopy_withClock { s with dma := none } c _ _
    · rfl

/-- What a quiet tick does after the CPU's turn. -/
def afterCpu : Result → Result
  | .next t => .next (t.dmaAdvance 1)
  | .fault e => .fault e
  | .refused e => .refused e

theorem tick_quiet (s : State) : tick .quiet s = afterCpu (cpuTick s) := by
  change (match cpuTick s with
    | .next t => Host.Outcome.next (t.dmaAdvance 1)
    | .fault e => .fault e
    | .refused e => .refused e) = _
  cases cpuTick s <;> rfl

theorem mCycle_eq (s : State) : mCycle s = afterCpu (substep (s.dmaAdvance (s.speed.ticksPerCycle - 1))) := by
  unfold mCycle
  cases substep (s.dmaAdvance (s.speed.ticksPerCycle - 1)) <;> rfl

theorem quietTicks_add {m n : Nat} {s t : State} (h : quietTicks m s = .next t) :
    quietTicks (m + n) s = quietTicks n t := by
  induction m generalizing s with
  | zero =>
    cases h
    rw [Nat.zero_add]
  | succ m ih =>
    rw [quietTicks] at h
    rw [Nat.add_right_comm, quietTicks]
    cases ht : tick .quiet s with
    | next u =>
      rw [ht] at h
      exact ih h
    | fault e =>
      rw [ht] at h
      cases h
    | refused e =>
      rw [ht] at h
      cases h

/-- R130: short of the M-cycle's last tick only the divider and the DMA go on. -/
theorem tick_counting {s : State} (h : s.clockCycle + 1 < s.speed.ticksPerCycle) :
    tick .quiet s = .next { s.dmaAdvance 1 with clockCycle := s.clockCycle + 1 } := by
  have hcpu : cpuTick s = .next { s with clockCycle := s.clockCycle + 1 } := if_neg (Nat.not_le_of_lt h)
  rw [tick_quiet, hcpu, afterCpu, State.dmaAdvance_withClock]

theorem quietTicks_counting {s : State} {n : Nat} (hn : s.clockCycle + (n + 1) < s.speed.ticksPerCycle) :
    quietTicks (n + 1) s = .next { s.dmaAdvance (n + 1) with clockCycle := s.clockCycle + (n + 1) } := by
  induction n generalizing s with
  | zero =>
    rw [quietTicks, tick_counting hn]
    rfl
  | succ n ih =>
    rw [quietTicks, tick_counting (by omega)]
    dsimp only
    rw [ih (by rw [State.dmaAdvance_speed]; dsimp only; omega), State.dmaAdvance_withClock, State.dmaAdvance_add]
    simp only [Nat.add_assoc, Nat.add_comm 1]

theorem Speed.two_le_ticksPerCycle (sp : Speed) : 2 ≤ sp.ticksPerCycle := by cases sp <;> decide

/-- R11, R130: the ticks of an M-cycle. -/
theorem quietTicks_mCycle {s : State} (h0 : s.clockCycle = 0) : quietTicks s.speed.ticksPerCycle s = mCycle s := by
  have h2 := s.speed.two_le_ticksPerCycle
  obtain ⟨n, hn⟩ : ∃ n, s.speed.ticksPerCycle = n + 1 + 1 := ⟨s.speed.ticksPerCycle - 2, by omega⟩
  have hcount : quietTicks (n + 1) s = .next { s.dmaAdvance (n + 1) with clockCycle := n + 1 } := by
    rw [quietTicks_counting (by omega), h0, Nat.zero_add]
  have hcpu : cpuTick { s.dmaAdvance (n + 1) with clockCycle := n + 1 } = substep (s.dmaAdvance (n + 1)) := by
    rw [cpuTick, if_pos (by simp [hn])]
    dsimp only
    rw [← h0, ← s.dmaAdvance_clockCycle (n + 1)]
  rw [mCycle_eq, hn, quietTicks_add hcount, quietTicks, tick_quiet, hcpu, Nat.add_sub_cancel]
  cases substep (s.dmaAdvance (n + 1)) <;> rfl

/-! ### Inside an instruction or a dispatch the speed and the divider stay (R32, R334) -/

/-- The speed and the divider are as before. -/
def SameClock (s t : State) : Prop := t.clockCycle = s.clockCycle ∧ t.speed = s.speed

theorem SameClock.trans {s t u : State} (h : SameClock s t) (h' : SameClock t u) : SameClock s u :=
  ⟨h'.1.trans h.1, h'.2.trans h.2⟩

theorem Ordinary.sameClock {s t : State} (h : Ordinary s t) : SameClock s t := ⟨h.clockCycle, h.speed⟩

theorem fetchState_sameClock {s t : State} (ht : fetchState s = .next t) : SameClock s t := by
  have h : SameClock s s.fetchOpcode.2 := ⟨s.fetchOpcode_clockCycle, s.fetchOpcode_speed⟩
  unfold fetchState at ht
  dsimp only at ht
  split at ht
  · cases ht
  · split at ht
    · cases ht
      exact h
    · split at ht <;> cases ht <;> exact h

theorem MicroOp.execute_sameClock (o : Operands) (ctx : Word) (s : State) (op : MicroOp) :
    SameClock s (op.execute o ctx s).2 := by
  cases op with
  | switchInterrupts enable delayed => exact ⟨rfl, rfl⟩
  | _ => exact (MicroOp.execute_ordinary o ctx s (by simp)).sameClock

theorem runMicroOp_sameClock (op : MicroOp) (s : State) : SameClock s (runMicroOp op s) :=
  (op.check_ordinary _ s).sameClock.trans (op.execute_sameClock _ _ _)

/-- R131 step 5: a loop that ends inside an instruction has not run STOP. -/
theorem engineLoop_sameClock {fuel : Nat} {accessed : Bool} {s t : State} (ht : engineLoop fuel accessed s = .next t)
    (hbusy : t.phase.idle = false) : SameClock s t := by
  induction fuel generalizing accessed s with
  | zero =>
    cases ht
    exact ⟨rfl, rfl⟩
  | succ fuel ih =>
    unfold engineLoop at ht
    cases hp : s.phase with simp only [hp] at ht
    | opcode =>
      split at ht
      · exact (fetchState_sameClock ‹_›).trans (ih ht)
      · cases ht
      · cases ht
    | extOpcode =>
      split at ht
      · cases ht
        exact ⟨rfl, rfl⟩
      · exact SameClock.trans (t := fetchSecond s) ⟨s.fetch8_clockCycle, s.fetch8_speed⟩ (ih ht)
    | operand =>
      split at ht
      · split at ht
        · cases ht
          exact ⟨rfl, rfl⟩
        · exact SameClock.trans (t := fetchOperand s) ⟨s.fetch8_clockCycle, s.fetch8_speed⟩ (ih ht)
      · exact SameClock.trans (t := { s with phase := .running }) ⟨rfl, rfl⟩ (ih ht)
    | running =>
      split at ht
      · cases hbusy.symm.trans (execSTOP_idle ht)
      · split at ht
        · cases hbusy.symm.trans (execHALT_idle ht)
        · split at ht
          · cases ht
            exact ⟨rfl, rfl⟩
          · split at ht
            · cases ht
              exact ⟨rfl, rfl⟩
            · split at ht
              · cases ht
                exact ⟨rfl, rfl⟩
              · split at ht
                · cases ht
                  exact runMicroOp_sameClock _ s
                · exact (runMicroOp_sameClock _ s).trans (ih ht)
    | _ =>
      cases ht
      exact ⟨rfl, rfl⟩

theorem acceptInterrupt_sameClock (s : State) : SameClock s (acceptInterrupt s) := by
  rw [acceptInterrupt_eq]
  exact ⟨rfl, rfl⟩

theorem irqSubstep_sameClock {s t : State} (ht : irqSubstep s = some t) : SameClock s t := by
  unfold irqSubstep at ht
  split at ht <;> cases ht
  · exact (Ordinary.busRead s 0xFF0F).sameClock
  · unfold irqReadIE
    dsimp only
    split <;> exact (Ordinary.busRead s 0xFFFF).sameClock
  · exact (Ordinary.pushByte s .push1 _).sameClock
  · exact (Ordinary.pushByte s .push2 _).sameClock
  · unfold irqJump
    split <;> exact ⟨rfl, rfl⟩

/-- R131. -/
theorem substep_sameClock {s t : State} (ht : substep s = .next t) (hbusy : t.phase.idle = false) : SameClock s t := by
  have h1 : SameClock s (if s.phase.idle && s.ic.accepts then acceptInterrupt s else s) := by
    split
    · exact acceptInterrupt_sameClock s
    · exact ⟨rfl, rfl⟩
  refine h1.trans ?_
  unfold substep at ht
  dsimp only at ht
  generalize (if s.phase.idle && s.ic.accepts then acceptInterrupt s else s) = s1 at ht
  split at ht
  · cases ht
    exact irqSubstep_sameClock ‹_›
  · split at ht
    · split at ht
      · exact engineLoop_sameClock (s := { s1 with phase := .opcode }) ht hbusy
      · cases ht
        exact ⟨rfl, rfl⟩
    · cases ht
      exact ⟨rfl, rfl⟩
    · exact engineLoop_sameClock ht hbusy

/-! ### Sub-steps up to a boundary (R131, R148) -/

/-- From the outcome `r` of a sub-step, the first of `m`, the last of them ends at a boundary, in `t`; from each to the next the
OAM DMA has the ticks of an M-cycle. -/
inductive Ends : Result → Nat → State → Prop where
  | now {t : State} : t.phase.idle = true → Ends (.next t) 1 t
  | later {t u : State} {m : Nat} : t.phase.idle = false → Ends (substep (t.dmaAdvance t.speed.ticksPerCycle)) m u →
      Ends (.next t) (m + 1) u

/-- The sub-steps of a step that begins in `s`: the first falls on the last tick of its M-cycle. -/
def State.firstSubstep (s : State) : Result := substep (s.dmaAdvance (s.speed.ticksPerCycle - 1))

theorem Ends.pos {r : Result} {m : Nat} {t : State} (h : Ends r m t) : 1 ≤ m := by
  cases h <;> omega

/-- R78: the DMA's turn in an M-cycle's last tick and its ticks in the next M-cycle. -/
theorem State.firstSubstep_afterTurn (t : State) :
    (t.dmaAdvance 1).firstSubstep = substep (t.dmaAdvance t.speed.ticksPerCycle) := by
  have := t.speed.ticksPerCycle_pos
  rw [State.firstSubstep, State.dmaAdvance_add, State.dmaAdvance_speed]
  congr 2
  omega

/-- R148: the M-cycles of a step. -/
theorem Ends.mCycles {r : Result} {m : Nat} {t : State} (h : Ends r m t) {s : State} {fuel : Nat}
    (hr : r = s.firstSubstep) (hm : m ≤ fuel) : Machine.mCycles fuel s = .next (t.dmaAdvance 1) := by
  induction h generalizing s fuel with
  | @now t hidle =>
    obtain ⟨fuel, rfl⟩ := Nat.exists_eq_add_one.mpr hm
    exact mCycles_boundary (by rw [mCycle_eq, ← State.firstSubstep, ← hr]; rfl) (by rwa [State.dmaAdvance_phase])
  | @later t u m hbusy h ih =>
    obtain ⟨fuel, rfl⟩ := Nat.exists_eq_add_one.mpr (Nat.zero_lt_of_lt hm)
    have hnext : Machine.mCycle s = .next (t.dmaAdvance 1) := by rw [mCycle_eq, ← State.firstSubstep, ← hr]; rfl
    rw [mCycles_busy hnext (by rwa [State.dmaAdvance_phase])]
    exact ih t.firstSubstep_afterTurn.symm (by omega)

/-- R148: the ticks of a step. -/
theorem Ends.quietTicks {r : Result} {m : Nat} {t : State} (h : Ends r m t) {s : State} (hr : r = s.firstSubstep)
    (h0 : s.clockCycle = 0) : Machine.quietTicks (m * s.speed.ticksPerCycle) s = .next (t.dmaAdvance 1) := by
  induction h generalizing s with
  | now hidle => rw [Nat.one_mul, quietTicks_mCycle h0, mCycle_eq, ← State.firstSubstep, ← hr, afterCpu]
  | @later t u m hbusy h ih =>
    obtain ⟨hclock, hspeed⟩ := substep_sameClock hr.symm hbusy
    rw [State.dmaAdvance_clockCycle, h0] at hclock
    rw [State.dmaAdvance_speed] at hspeed
    have hfirst : Machine.quietTicks s.speed.ticksPerCycle s = .next (t.dmaAdvance 1) := by
      rw [quietTicks_mCycle h0, mCycle_eq, ← State.firstSubstep, ← hr, afterCpu]
    rw [Nat.succ_mul, Nat.add_comm, quietTicks_add hfirst]
    have hrest := ih t.firstSubstep_afterTurn.symm (by rw [State.dmaAdvance_clockCycle, hclock])
    rwa [State.dmaAdvance_speed, hspeed] at hrest

theorem Ends.timedStep {s t : State} {m : Nat} (h : Ends s.firstSubstep m t) (hm : m ≤ 16) :
    Machine.timedStep s = .next { t.dmaAdvance 1 with latch := s.latch } := by
  rw [Machine.timedStep, h.mCycles rfl (fuel := mCycleFuel) hm]

/-- A fault of the first sub-step is the step's. -/
theorem timedStep_faults {s : State} {e : Fault} (h : s.firstSubstep = .fault e) : timedStep s = .fault e := by
  rw [timedStep, mCycleFuel, mCycles, mCycle_eq, ← State.firstSubstep, h]
  rfl

theorem quietTicks_faults {s : State} {e : Fault} (h : s.firstSubstep = .fault e) (h0 : s.clockCycle = 0) :
    quietTicks (1 * s.speed.ticksPerCycle) s = .fault e := by
  rw [Nat.one_mul, quietTicks_mCycle h0, mCycle_eq, ← State.firstSubstep, h, afterCpu]

/-- Every sub-step gets nearer to the boundary, so a row of them ends there. -/
theorem ends_of_completes (n : Nat) {s : State} (hn : s.remaining ≤ n) (hs : Completes (substep s)) :
    ∃ m t, m ≤ n ∧ Ends (substep s) m t := by
  induction n generalizing s with
  | zero => exact absurd s.remaining_pos (by omega)
  | succ n ih =>
    obtain ⟨t, ht⟩ := hs
    rw [ht]
    cases hidle : t.phase.idle with
    | true => exact ⟨1, t, by omega, .now hidle⟩
    | false =>
      have hnear : t.remaining < s.remaining := (substep_nearer ht).resolve_left (by simp [hidle])
      obtain ⟨m, u, hm, hu⟩ := ih (s := t.dmaAdvance t.speed.ticksPerCycle) (by rw [State.remaining_dmaAdvance]; omega)
        (substep_completes (by rwa [State.dmaAdvance_phase]))
      exact ⟨m + 1, u, by omega, .later hidle hu⟩

end Sys2Proof.Machine
end

section
/-! A machine with an OAM DMA in progress beside the same machine for which no tick passes (R75, R78). `Beside` says that they
differ in the window's ticks only; every operation of an instruction keeps it, because the address map looks at whether a
transfer is in progress and not at its ticks, and a write of 0xFF46 starts the same window in both. -/

namespace Sys2Proof.Machine

/-- The events after the first `base` are no write of the source page. -/
def NoDmaStart (base : Nat) (s : State) : Prop := ∀ v, Event.deviceWrite 0xFF46 v ∉ s.events.drop base

/-- `q` is `p` but for where it stands in the instruction and for the OAM DMA, of which up to `n` ticks have passed in `q` and
none in `p`: `n`, unless 0xFF46 has been written since there were `base` events. For `left` more the window is open. -/
structure Beside (base n left : Nat) (p q : State) : Prop where
  same : q = { p with dma := q.dma, phase := q.phase, latch := q.latch }
  noDma : p.dma = none → q.dma = none
  window : ∀ d, p.dma = some d → ∃ k ≤ n, q.dma = some { d with ticksLeft := d.ticksLeft - k } ∧
    left + k < d.ticksLeft ∧ (NoDmaStart base p → k = n)
  recorded : base ≤ p.events.length
  short : left < 324

namespace Beside

variable {base n left : Nat} {p q : State}

/-- Before any tick has passed. -/
theorem refl {s : State} (hopen : ∀ d, s.dma = some d → left < d.ticksLeft) (hshort : left < 324) :
    Beside s.events.length 0 left s s where
  same := rfl
  noDma := id
  window := fun d hd => ⟨0, Nat.le_refl 0, hd, hopen d hd, fun _ => rfl⟩
  recorded := Nat.le_refl _
  short := hshort

/-- `q` with its own standing and its own transfer written out. -/
theorem shape (h : Beside base n left p q) :
    ∃ d ph l, d.isSome = p.dma.isSome ∧ q = { p with dma := d, phase := ph, latch := l } := by
  refine ⟨q.dma, q.phase, q.latch, ?_, h.same⟩
  cases hd : p.dma with
  | none => rw [h.noDma hd]
  | some d =>
    obtain ⟨k, -, hq, -⟩ := h.window d hd
    rw [hq]
    rfl

theorem regs (h : Beside base n left p q) : q.regs = p.regs := by rw [h.same]
theorem ic (h : Beside base n left p q) : q.ic = p.ic := by rw [h.same]
theorem irq (h : Beside base n left p q) : q.irq = p.irq := by rw [h.same]
theorem speed (h : Beside base n left p q) : q.speed = p.speed := by rw [h.same]

/-- A change that reaches neither transfer, the same in both. -/
theorem change (h : Beside base n left p q) {p' q' : State}
    (hq : q' = { p' with dma := q.dma, phase := q'.phase, latch := q'.latch }) (hd : p'.dma = p.dma)
    (he : p.events <+: p'.events) : Beside base n left p' q' where
  same := by rw [hq]
  noDma := fun hn => by
    rw [hq]
    exact h.noDma (hd ▸ hn)
  window := fun d hp => by
    obtain ⟨k, hk, hw, hopen, hall⟩ := h.window d (hd ▸ hp)
    refine ⟨k, hk, by rw [hq]; exact hw, hopen, fun hno => hall fun v hv => hno v ?_⟩
    exact (he.drop base).mem hv
  recorded := h.recorded.trans he.length_le
  short := h.short

/-- Where the machine stands in an instruction does not matter. -/
theorem control (h : Beside base n left p q) (a c : Phase) (b d : Latches) :
    Beside base n left { p with phase := a, latch := b } { q with phase := c, latch := d } :=
  h.change (by rw [h.same]) rfl (List.prefix_refl _)

/-- R75, R78: ticks of the DMA, the window being open. -/
theorem turns {j : Nat} (h : Beside base n (left + j) p q) : Beside base (n + j) left p (q.dmaAdvance j) := by
  have hshort := h.short
  cases hd : p.dma with
  | none =>
    rw [q.dmaAdvance_idle j (h.noDma hd)]
    exact ⟨h.same, h.noDma, fun d hp => (by cases hd.symm.trans hp), h.recorded, by omega⟩
  | some d =>
    obtain ⟨k, hk, hw, hopen, hall⟩ := h.window d hd
    rw [State.dmaAdvance_counts hw (by dsimp only; omega)]
    refine ⟨by rw [h.same], fun hn => (by cases hd.symm.trans hn), fun d' hd' => ⟨k + j, by omega, ?_, ?_, ?_⟩,
      h.recorded, by omega⟩
    · obtain rfl := Option.some.inj (hd.symm.trans hd')
      rw [Nat.sub_sub]
    · obtain rfl := Option.some.inj (hd.symm.trans hd')
      omega
    · exact fun hno => congrArg (· + j) (hall hno)

end Beside

/-! ### The bus (R60, R75) -/

section Window

variable (s : State) {d : Option DmaTransfer} (ph : Phase) (l : Latches)

/-- The map looks at whether a transfer is in progress, not at its ticks. -/
theorem State.place_withWindow (hd : d.isSome = s.dma.isSome) (a : Word) :
    ({ s with dma := d, phase := ph, latch := l } : State).place a = s.place a := by
  simp [State.place, State.flatPlace, State.gameBoyPlace, State.vramCell, State.wramCell, hd]

theorem State.busRead_withWindow (hd : d.isSome = s.dma.isSome) (a : Word) :
    ({ s with dma := d, phase := ph, latch := l } : State).busRead a =
      ((s.busRead a).1, { (s.busRead a).2 with dma := d, phase := ph, latch := l }) := by
  unfold State.busRead
  rw [s.place_withWindow ph l hd]
  split <;> rfl

theorem State.oamFree_withWindow (k : Nat) : ({ s with dma := d, phase := ph, latch := l } : State).oamFree k =
    { s.oamFree k with dma := d, phase := ph, latch := l } := by
  induction k with
  | zero => rfl
  | succ k ih => simp only [State.oamFree, ih]

theorem State.oamCheck_withWindow (ty : OamType) (v : Word) :
    ({ s with dma := d, phase := ph, latch := l } : State).oamCheck ty v =
      { s.oamCheck ty v with dma := d, phase := ph, latch := l } := by
  unfold State.oamCheck
  split
  · rename_i h
    rw [if_pos (show (inOamPage v && s.oamWindow) = true from h)]
    dsimp only
    split
    · rfl
    · exact State.oamFree_withWindow (s.emit (.oamCorrupt ty)) ph l 160
  · rename_i h
    rw [if_neg (show ¬(inOamPage v && s.oamWindow) = true from h)]

end Window

theorem State.oamCheck_records (s : State) (ty : OamType) (v : Word) : s.events <+: (s.oamCheck ty v).events := by
  cases h : inOamPage v && s.oamWindow with
  | true =>
    rw [State.oamCheck_events h]
    exact List.prefix_append _ _
  | false =>
    rw [State.oamCheck, if_neg (by simp [h])]

/-- R75: only 0xFF46 is the source page. -/
theorem ioPlace_dmaPage {g : Bool} {n : Nat} (h : ioPlace g n = .dmaPage) : n = 0xFF46 := by
  unfold ioPlace at h
  repeat' split at h
  all_goals simp_all

theorem State.eq_of_place_dmaPage {s : State} {a : Word} (h : s.place a = .dmaPage) : a = 0xFF46 := by
  refine BitVec.eq_of_toNat_eq ?_
  unfold State.place at h
  split at h
  · unfold State.flatPlace at h
    repeat' split at h
    all_goals simp at h
  · unfold State.gameBoyPlace at h
    repeat' split at h
    any_goals cases h
    exact ioPlace_dmaPage h

/-- A write elsewhere does not look at the transfer, and does not start one. -/
theorem State.busWrite_withWindow (s : State) {d : Option DmaTransfer} (ph : Phase) (l : Latches) {a : Word}
    (hd : d.isSome = s.dma.isSome) (ha : s.place a ≠ .dmaPage) (v : Byte) :
    ({ s with dma := d, phase := ph, latch := l } : State).busWrite a v =
      { s.busWrite a v with dma := d, phase := ph, latch := l } ∧
    (s.busWrite a v).dma = s.dma ∧ s.events <+: (s.busWrite a v).events := by
  unfold State.busWrite
  rw [s.place_withWindow ph l hd]
  split
  case h_8 h => exact absurd h ha
  all_goals exact ⟨rfl, rfl, by simp⟩

namespace Beside

variable {base n left : Nat} {p q : State}

theorem busRead_byte (h : Beside base n left p q) (a : Word) : (q.busRead a).1 = (p.busRead a).1 := by
  obtain ⟨d, ph, l, hd, rfl⟩ := h.shape
  rw [State.busRead_withWindow p ph l hd]

theorem busRead (h : Beside base n left p q) (a : Word) : Beside base n left (p.busRead a).2 (q.busRead a).2 := by
  refine h.change ?_ (p.busRead_dma a) (by rw [State.busRead_events])
  obtain ⟨d, ph, l, hd, rfl⟩ := h.shape
  rw [State.busRead_withWindow p ph l hd]

theorem oamCheck (h : Beside base n left p q) (ty : OamType) (v : Word) :
    Beside base n left (p.oamCheck ty v) (q.oamCheck ty v) := by
  refine h.change ?_ (p.oamCheck_dma ty v) (p.oamCheck_records ty v)
  obtain ⟨d, ph, l, hd, rfl⟩ := h.shape
  rw [State.oamCheck_withWindow p ph l]

/-- R75: a write of 0xFF46 starts the window anew in both; any other leaves both as they are. -/
theorem busWrite (h : Beside base n left p q) (a : Word) (v : Byte) :
    Beside base n left (p.busWrite a v) (q.busWrite a v) := by
  by_cases ha : p.place a = .dmaPage
  · obtain rfl := State.eq_of_place_dmaPage ha
    have hp : p.busWrite 0xFF46 v = (p.startDma v).emit (.deviceWrite 0xFF46 v) := by rw [State.busWrite, ha]
    have hq : q.busWrite 0xFF46 v = (q.startDma v).emit (.deviceWrite 0xFF46 v) := by
      obtain ⟨d, ph, l, hd, rfl⟩ := h.shape
      rw [State.busWrite, State.place_withWindow p ph l hd, ha]
    have hshort := h.short
    rw [hp, hq]
    refine ⟨by rw [h.same]; rfl, nofun, fun d hd => ⟨0, Nat.zero_le n, ?_, ?_, fun hno => ?_⟩, ?_, h.short⟩
    · obtain rfl := Option.some.inj hd
      rw [h.same]
      rfl
    · obtain rfl := Option.some.inj hd
      cases p.speed <;> simp only [Speed.multiplier] <;> omega
    · refine absurd ?_ (hno v)
      rw [State.emit_events, State.startDma_events, List.drop_append_of_le_length h.recorded]
      simp
    · rw [State.emit_events, State.startDma_events, List.length_append]
      exact h.recorded.trans (Nat.le_add_right _ _)
  · obtain ⟨d, ph, l, hd, hq⟩ := h.shape
    obtain ⟨hw, hdma, he⟩ := State.busWrite_withWindow p ph l hd ha v
    refine h.change ?_ hdma he
    rw [hq, hw]

/-! ### Registers and the interrupt controller -/

theorem setR8 (h : Beside base n left p q) (r : Reg8) (v : Byte) : Beside base n left (p.setR8 r v) (q.setR8 r v) := by
  rw [p.setR8_eq, q.setR8_eq]
  exact h.change (by rw [h.same]; cases r <;> rfl) rfl (List.prefix_refl _)

theorem setR16 (h : Beside base n left p q) (r : Reg16) (v : Word) :
    Beside base n left (p.setR16 r v) (q.setR16 r v) := by
  rw [p.setR16_eq, q.setR16_eq]
  exact h.change (by rw [h.same]; cases r <;> rfl) rfl (List.prefix_refl _)

theorem setPair (h : Beside base n left p q) (r : StackPair) (v : Word) :
    Beside base n left (p.setPair r v) (q.setPair r v) := by
  rw [p.setPair_eq, q.setPair_eq]
  exact h.change (by rw [h.same]; cases r <;> rfl) rfl (List.prefix_refl _)

theorem setF (h : Beside base n left p q) (v : Byte) : Beside base n left (p.setF v) (q.setF v) :=
  h.change (by rw [h.same]; rfl) rfl (List.prefix_refl _)

theorem setSp (h : Beside base n left p q) (v : Word) : Beside base n left (p.setSp v) (q.setSp v) := h.setR16 .SP v

theorem setPc (h : Beside base n left p q) (v : Word) : Beside base n left (p.setPc v) (q.setPc v) :=
  h.change (by rw [h.same]; rfl) rfl (List.prefix_refl _)

theorem switchInterrupts (h : Beside base n left p q) (enable delayed : Bool) :
    Beside base n left (p.switchInterrupts enable delayed) (q.switchInterrupts enable delayed) :=
  h.change (by rw [h.same]; rfl) rfl (List.prefix_refl _)

theorem instructionFinished (h : Beside base n left p q) :
    Beside base n left p.instructionFinished q.instructionFinished :=
  h.change (by rw [h.same]; rfl) rfl (List.prefix_refl _)

/-! ### Fetches (R135 to R137) -/

theorem fetch8_byte (h : Beside base n left p q) : q.fetch8.1 = p.fetch8.1 := by
  change (q.busRead q.regs.pc).1 = (p.busRead p.regs.pc).1
  rw [h.regs, h.busRead_byte]

theorem fetch8 (h : Beside base n left p q) : Beside base n left p.fetch8.2 q.fetch8.2 := by
  change Beside base n left ((p.busRead p.regs.pc).2.setPc _) ((q.busRead q.regs.pc).2.setPc _)
  rw [h.regs, (h.busRead _).regs]
  exact (h.busRead _).setPc _

theorem fetchOpcode_byte (h : Beside base n left p q) : q.fetchOpcode.1 = p.fetchOpcode.1 := by
  rw [State.fetchOpcode_byte, State.fetchOpcode_byte, h.regs, h.busRead_byte]

theorem fetchOpcode (h : Beside base n left p q) : Beside base n left p.fetchOpcode.2 q.fetchOpcode.2 := by
  have hread := h.busRead p.regs.pc
  have hbug : q.haltBug = p.haltBug := by rw [h.same]
  unfold State.fetchOpcode
  dsimp only
  rw [h.regs, State.busRead_haltBug, State.busRead_haltBug, hbug, hread.regs]
  split
  · exact hread.change (by rw [hread.same]) rfl (List.prefix_refl _)
  · exact hread.setPc _

/-! ### Micro-ops (R138, R141) -/

theorem check (h : Beside base n left p q) (op : MicroOp) (ctx : Word) :
    Beside base n left (op.check ctx p) (op.check ctx q) := by
  have hoam : op.oam ctx q = op.oam ctx p := by rw [h.same]; rfl
  unfold MicroOp.check
  rw [hoam]
  split
  · exact h.oamCheck _ _
  · exact h

theorem value (h : Beside base n left p q) (o : Operands) (src : Src) :
    (src.value o q).1 = (src.value o p).1 ∧ Beside base n left (src.value o p).2 (src.value o q).2 := by
  cases src with
  | mem m =>
    have haddr : q.addrOf (m.form o) = p.addrOf (m.form o) := by rw [h.same]; rfl
    unfold Src.value
    dsimp only
    rw [haddr, h.busRead_byte]
    exact ⟨rfl, h.busRead _⟩
  | _ => exact ⟨by rw [h.same]; rfl, h⟩

theorem store (h : Beside base n left p q) (o : Operands) (ctx : Word) (dst : Dst) :
    Beside base n left (dst.store o ctx p) (dst.store o ctx q) := by
  cases dst with
  | reg r => exact h.setR8 r _
  | pair r => exact h.setR16 r ctx
  | stackPair r => exact h.setPair r ctx
  | pc => exact h.setPc ctx
  | mem m =>
    have haddr : q.addrOf (m.form o) = p.addrOf (m.form o) := by rw [h.same]; rfl
    unfold Dst.store
    dsimp only
    rw [haddr]
    exact h.busWrite _ _
  | a16Lo => exact h.busWrite _ _
  | a16Hi => exact h.busWrite _ _

theorem alu1 (h : Beside base n left p q) (ctx : Word) (f : Fn1) :
    (f.run ctx q).1 = (f.run ctx p).1 ∧ Beside base n left (f.run ctx p).2 (f.run ctx q).2 := by
  cases f with
  | inc16 => exact ⟨rfl, h⟩
  | dec16 => exact ⟨rfl, h⟩
  | _ =>
    simp only [Fn1.run, setResult, h.regs]
    exact ⟨trivial, h.setF _⟩

theorem alu2 (h : Beside base n left p q) (ctx v : Word) (f : Fn2) :
    (f.run ctx v q).1 = (f.run ctx v p).1 ∧ Beside base n left (f.run ctx v p).2 (f.run ctx v q).2 := by
  cases f with
  | addPc => exact ⟨rfl, h⟩
  | _ =>
    simp only [Fn2.run, setResult, h.regs]
    exact ⟨trivial, h.setF _⟩

theorem alu3 (h : Beside base n left p q) (m : Fin 8) (ctx : Word) (f : Fn3) :
    (f.run m ctx q).1 = (f.run m ctx p).1 ∧ Beside base n left (f.run m ctx p).2 (f.run m ctx q).2 := by
  cases f with
  | bit =>
    simp only [Fn3.run, h.regs]
    exact ⟨trivial, h.setF _⟩
  | _ => exact ⟨rfl, h⟩

theorem pushStore (h : Beside base n left p q) (v : Byte) : Beside base n left (p.pushStore v) (q.pushStore v) := by
  change Beside base n left ((p.setSp (p.regs.sp - 1)).busWrite (p.regs.sp - 1) v)
    ((q.setSp (q.regs.sp - 1)).busWrite (q.regs.sp - 1) v)
  rw [h.regs]
  exact (h.setSp _).busWrite _ _

theorem popLoad (h : Beside base n left p q) :
    q.popLoad.1 = p.popLoad.1 ∧ Beside base n left p.popLoad.2 q.popLoad.2 := by
  unfold State.popLoad
  dsimp only
  rw [h.regs, h.busRead_byte, (h.busRead _).regs]
  exact ⟨rfl, (h.busRead _).setSp _⟩

theorem execute (h : Beside base n left p q) (o : Operands) (ctx : Word) (op : MicroOp) :
    (op.execute o ctx q).1 = (op.execute o ctx p).1 ∧
      Beside base n left (op.execute o ctx p).2 (op.execute o ctx q).2 := by
  cases op with
  | load src => exact h.value o src
  | store dst => exact ⟨rfl, h.store o ctx dst⟩
  | alu1 f => exact h.alu1 ctx f
  | alu2 f src =>
    unfold MicroOp.execute
    dsimp only
    rw [(h.value o src).1]
    exact h.alu2 ctx _ f
  | alu3 f m => exact h.alu3 m ctx f
  | pushHi => exact ⟨rfl, h.pushStore _⟩
  | pushLo => exact ⟨rfl, h.pushStore _⟩
  | popLo => exact ⟨congrArg zext16 h.popLoad.1, h.popLoad.2⟩
  | popHi => exact ⟨congrArg (pairOf · (loByte ctx)) h.popLoad.1, h.popLoad.2⟩
  | proceedIf cc => exact ⟨rfl, h⟩
  | extraCycle => exact ⟨rfl, h⟩
  | forceFinish => exact ⟨rfl, h⟩
  | switchInterrupts enable delayed => exact ⟨rfl, h.switchInterrupts enable delayed⟩
  | bitHL m =>
    have hread := h.busRead p.hl
    have hhl : q.hl = p.hl := State.r16_congr h.regs .HL
    unfold MicroOp.execute
    dsimp only
    rw [hhl, h.busRead_byte, hread.regs]
    exact ⟨rfl, hread.setF _⟩
  | incHL =>
    have hhl : q.hl = p.hl := State.r16_congr h.regs .HL
    unfold MicroOp.execute
    rw [hhl]
    exact ⟨rfl, h.setR16 .HL _⟩
  | decHL =>
    have hhl : q.hl = p.hl := State.r16_congr h.regs .HL
    unfold MicroOp.execute
    rw [hhl]
    exact ⟨rfl, h.setR16 .HL _⟩
  | clearZ =>
    unfold MicroOp.execute
    rw [h.regs]
    exact ⟨rfl, h.setF _⟩

/-! ### A dispatch (R361 to R365) and the system instructions (R331, R334) -/

theorem pushByte (h : Beside base n left p q) (ty : OamType) (v : Byte) :
    Beside base n left (p.pushByte ty v) (q.pushByte ty v) := by
  rw [p.pushByte_regs_eq, q.pushByte_regs_eq, h.regs]
  exact ((h.oamCheck ty _).setSp _).busWrite _ _

theorem acceptInterrupt (h : Beside base n left p q) (hp : q.phase = p.phase) :
    Beside base n left (Machine.acceptInterrupt p) (Machine.acceptInterrupt q) := by
  unfold Machine.acceptInterrupt
  rw [hp]
  split
  · exact h.change (by rw [h.same]; rfl) rfl (List.prefix_append _ _)
  · exact h.control _ _ _ _

theorem irqReadIF (h : Beside base n left p q) :
    Beside base n left (Machine.irqReadIF p) (Machine.irqReadIF q) := by
  rw [irqReadIF_eq, irqReadIF_eq]
  exact h.change (by rw [h.same]) rfl (List.prefix_refl _)

theorem irqReadIE (h : Beside base n left p q) {i : Irq} (hi : selectIrq p.irq.irqIF p.ic.ie = some i) :
    Beside base n left (Machine.irqReadIE p) (Machine.irqReadIE q) := by
  rw [irqReadIE_of_some hi, irqReadIE_of_some (s := q) (by rw [h.irq, h.ic]; exact hi)]
  exact h.change (by rw [h.same]) rfl (List.prefix_refl _)

theorem irqPush1 (h : Beside base n left p q) :
    Beside base n left (Machine.irqPush1 p) (Machine.irqPush1 q) := by
  unfold Machine.irqPush1
  dsimp only
  rw [h.regs]
  exact (h.pushByte _ _).control _ _ _ _

theorem irqPush2 (h : Beside base n left p q) :
    Beside base n left (Machine.irqPush2 p) (Machine.irqPush2 q) := by
  unfold Machine.irqPush2
  dsimp only
  rw [h.regs]
  exact (h.pushByte _ _).control _ _ _ _

theorem irqJump (h : Beside base n left p q) : Beside base n left (Machine.irqJump p) (Machine.irqJump q) := by
  unfold Machine.irqJump
  rw [h.irq]
  split
  · exact h.change (by rw [h.same]) rfl (List.prefix_refl _)
  · exact h.change (by rw [h.same]; rfl) rfl (List.prefix_refl _)

theorem execHALT (h : Beside base n left p q) {t : State} (ht : Machine.execHALT p = .next t) :
    ∃ u, Machine.execHALT q = .next u ∧ u.phase = t.phase ∧ Beside base n left t u := by
  unfold Machine.execHALT at ht ⊢
  rw [h.ic]
  split at ht <;> rename_i hbug <;> cases ht <;> simp only [hbug] <;> refine ⟨_, rfl, rfl, ?_⟩
  · exact h.change (by rw [h.same]) rfl (List.prefix_refl _)
  · exact h.change (by rw [h.same]) rfl (List.prefix_refl _)

theorem execSTOP (h : Beside base n left p q) {pad : Byte} {t : State} (ht : Machine.execSTOP pad p = .next t) :
    ∃ u, Machine.execSTOP pad q = .next u ∧ u.phase = t.phase ∧ Beside base n left t u := by
  have hswitch : (q.cfg.gbc && q.prepareSwitch) = (p.cfg.gbc && p.prepareSwitch) := by rw [h.same]
  unfold Machine.execSTOP at ht ⊢
  rw [hswitch]
  split at ht <;> rename_i hs <;> cases ht <;> simp only [hs] <;> refine ⟨_, rfl, rfl, ?_⟩
  · exact h.change (by rw [h.same]) rfl (List.prefix_refl _)
  · exact h.change (by rw [h.same]; rfl) rfl (List.prefix_append _ _)

end Beside

end Sys2Proof.Machine
end

section
/-! An instruction's M-cycles beside the instruction at once (R131, R135 to R139, R146, R421). The loop of R131 step 5 ends its
sub-step where the next byte or micro-op needs the bus again; between two sub-steps the OAM DMA has an M-cycle's ticks. How many
M-cycles a micro-op list takes is a figure of the list (`opsCycles`), and it is the duration table's. -/

namespace Sys2Proof.Machine

/-! ### The duration of a micro-op list (R142, R143, R146) -/

/-- R142: the micro-op may end the list. -/
def MicroOp.tests : MicroOp → Bool
  | .proceedIf _ => true
  | _ => false

/-- The micro-op does nothing but take its time or test. -/
def MicroOp.idles : MicroOp → Bool
  | .proceedIf _ => true
  | .extraCycle => true
  | _ => false

/-- Nothing is tested after the first micro-op that does something: a test sees the flags as the list found them. -/
def testsEarly : List MicroOp → Bool
  | [] => true
  | op :: rest => (op.idles || rest.all fun r => !r.tests) && testsEarly rest

/-- R131 step 5, R143: the M-cycles in which a sub-step that has used the bus or not (`accessed`) and those after it run the
list, its tests all coming out as `taken`. -/
def opsCycles (taken : Bool) (accessed : Bool) : List MicroOp → Nat
  | [] => 1
  | op :: rest =>
    (accessed && op.touches).toNat +
      (if op.tests && !taken then 1
      else if op.forcesFinish then 1 + opsCycles taken false rest
      else opsCycles taken (accessed || op.touches) rest)

theorem opsCycles_pos (taken accessed : Bool) (ops : List MicroOp) : 1 ≤ opsCycles taken accessed ops := by
  induction ops generalizing accessed with
  | nil => exact Nat.le_refl 1
  | cons op rest ih =>
    have := ih (accessed || op.touches)
    unfold opsCycles
    split
    · omega
    · split <;> omega

/-- The bus being used already, a micro-op that needs it waits for the next M-cycle. -/
theorem opsCycles_waits (taken : Bool) {op : MicroOp} (h : op.touches = true) (rest : List MicroOp) :
    opsCycles taken true (op :: rest) = opsCycles taken false (op :: rest) + 1 := by
  simp only [opsCycles, h, Bool.and_self, Bool.toNat_true, Bool.and_true, Bool.toNat_false, Bool.or_true]
  omega

theorem opsCycles_runs (taken : Bool) {accessed : Bool} {op : MicroOp} (h : (accessed && op.touches) = false)
    (rest : List MicroOp) : opsCycles taken accessed (op :: rest) =
      if op.tests && !taken then 1
      else if op.forcesFinish then opsCycles taken false rest + 1
      else opsCycles taken (accessed || op.touches) rest := by
  rw [opsCycles, h, Bool.toNat_false, Nat.zero_add, Nat.add_comm 1]

theorem testsEarly_tail {op : MicroOp} {rest : List MicroOp} (h : testsEarly (op :: rest) = true) :
    testsEarly rest = true := (Bool.and_eq_true_iff.mp h).2

/-- A micro-op after which something is tested changes nothing. -/
theorem testsEarly_head {op : MicroOp} {rest : List MicroOp} (h : testsEarly (op :: rest) = true) {cc : Cond}
    (hcc : .proceedIf cc ∈ rest) (o : Operands) (ctx : Word) (s : State) :
    (op.execute o ctx (op.check ctx s)).2 = s := by
  obtain hidle | hall := Bool.or_eq_true_iff.mp (Bool.and_eq_true_iff.mp h).1
  · cases op with
    | proceedIf | extraCycle => rfl
    | _ => cases hidle
  · cases List.all_eq_true.mp hall _ hcc

/-! ### Sub-steps to a boundary, beside a state -/

/-- The sub-steps that begin with the outcome `r` are `m` and end at a boundary beside `t`, with `c` ticks from each to the
next; `n` ticks have passed before them. -/
def Finishes (c base n m : Nat) (t : State) (r : Result) : Prop :=
  ∃ v, Ends r m v ∧ Beside base (n + (m - 1) * c) 1 t v ∧ v.phase = t.phase

/-- The states the loop of R131 step 5 works in, inside an instruction. -/
def Phase.inside : Phase → Bool
  | .extOpcode | .operand | .running => true
  | _ => false

theorem substep_inside {s : State} (h : s.phase.inside = true) : substep s = engineLoop 16 false s := by
  unfold Phase.inside at h
  split at h <;> simp_all [substep, Phase.idle, irqSubstep, loopFuel]

theorem Finishes.next {c base n m : Nat} {t q : State} (hbusy : q.phase.idle = false)
    (hc : q.speed.ticksPerCycle = c) (h : Finishes c base (n + c) m t (substep (q.dmaAdvance c))) :
    Finishes c base n (m + 1) t (.next q) := by
  obtain ⟨v, hv, hb, hp⟩ := h
  obtain ⟨k, rfl⟩ := Nat.exists_eq_add_one.mpr hv.pos
  refine ⟨v, .later hbusy (by rwa [hc]), ?_, hp⟩
  have hn : n + (k + 1 + 1 - 1) * c = n + c + (k + 1 - 1) * c := by
    simp only [Nat.add_sub_cancel, Nat.succ_mul]
    omega
  rwa [hn]

theorem Phase.inside_busy {ph : Phase} (h : ph.inside = true) : ph.idle = false := by
  cases ph with
  | extOpcode | operand | running => rfl
  | _ => cases h

theorem Finishes.later {c base n m : Nat} {t q : State} (hinside : q.phase.inside = true)
    (hc : q.speed.ticksPerCycle = c) (h : Finishes c base (n + c) m t (engineLoop 16 false (q.dmaAdvance c))) :
    Finishes c base n (m + 1) t (.next q) :=
  .next (Phase.inside_busy hinside) hc (by rwa [substep_inside (by rwa [State.dmaAdvance_phase])])

/-- R78: an M-cycle's ticks, where at least one more M-cycle follows. -/
theorem Beside.nextCycle {c base n m : Nat} {p q : State} (h : Beside base n (m * c + 1) p q) (hm : 1 ≤ m) :
    Beside base (n + c) ((m - 1) * c + 1) p (q.dmaAdvance c) := by
  obtain ⟨k, rfl⟩ := Nat.exists_eq_add_one.mpr hm
  refine Beside.turns (left := k * c + 1) (j := c) ?_
  rwa [Nat.add_right_comm, ← Nat.succ_mul]

/-! ### The micro-op list (R138, R139, R141 to R143) -/

/-- The machine is at the micro-ops `rest` of an instruction, with the operands `o` and the context `ctx`. -/
structure Running (o : Operands) (rest : List MicroOp) (ctx : Word) (q : State) : Prop where
  phase : q.phase = .running
  notStop : q.latch.opcode1 ≠ 0x10
  notHalt : q.latch.opcode1 ≠ 0x76
  operands : q.latch.operands = o
  context : q.latch.opContext = ctx
  rest : q.latch.ops.drop q.latch.opIndex = rest

namespace Running

variable {o : Operands} {op : MicroOp} {rest : List MicroOp} {ctx : Word} {q : State}

theorem dmaAdvance (h : Running o rest ctx q) (n : Nat) : Running o rest ctx (q.dmaAdvance n) := by
  obtain ⟨h1, h2, h3, h4, h5, h6⟩ := h
  constructor <;> simpa

/-- R138. -/
theorem runMicroOp (h : Running o (op :: rest) ctx q) :
    Running o rest (op.execute o ctx (op.check ctx q)).1 (runMicroOp op q) := by
  refine ⟨(runMicroOp_phase op q).trans h.phase, h.notStop, h.notHalt, h.operands, ?_, ?_⟩
  · rw [← h.operands, ← h.context]
    rfl
  · change q.latch.ops.drop (q.latch.opIndex + 1) = rest
    rw [← List.tail_drop, h.rest, List.tail_cons]

/-- R139: after the last micro-op. -/
theorem engineLoop_nil (h : Running o [] ctx q) (fuel : Nat) (accessed : Bool) :
    engineLoop (fuel + 1) accessed q = .next (finish q) := by
  have hnone : q.latch.ops[q.latch.opIndex]? = none := by
    rw [List.getElem?_eq_none_iff]
    exact List.drop_eq_nil_iff.mp h.rest
  simp only [engineLoop, h.phase, if_neg h.notStop, if_neg h.notHalt, hnone]

/-- R131 step 5, R138, R142, R143: the next micro-op. -/
theorem engineLoop_cons (h : Running o (op :: rest) ctx q) (fuel : Nat) (accessed : Bool) :
    engineLoop (fuel + 1) accessed q =
      if accessed && op.touches then .next q
      else if op.stops q then .next (finish { q with latch := { q.latch with opIndex := q.latch.ops.length } })
      else if op.forcesFinish then .next (Machine.runMicroOp op q)
      else engineLoop fuel (accessed || op.touches) (Machine.runMicroOp op q) := by
  have hsome : q.latch.ops[q.latch.opIndex]? = some op := by
    have := congrArg (·[0]?) h.rest
    simpa using this
  simp only [engineLoop, h.phase, if_neg h.notStop, if_neg h.notHalt, hsome]

/-- The bus is free, or the micro-op does not need it. -/
theorem engineLoop_cons_free (h : Running o (op :: rest) ctx q) (fuel : Nat) {accessed : Bool}
    (hfree : (accessed && op.touches) = false) : engineLoop (fuel + 1) accessed q =
      if op.stops q then .next (finish { q with latch := { q.latch with opIndex := q.latch.ops.length } })
      else if op.forcesFinish then .next (Machine.runMicroOp op q)
      else engineLoop fuel (accessed || op.touches) (Machine.runMicroOp op q) := by
  rw [h.engineLoop_cons, hfree, if_neg Bool.false_ne_true]

end Running

theorem MicroOp.stops_congr {s t : State} (h : t.regs = s.regs) (op : MicroOp) : op.stops t = op.stops s := by
  cases op <;> simp [MicroOp.stops, State.cond_congr h]

theorem Beside.standing {base n left : Nat} {p q : State} (h : Beside base n left p q) (ph : Phase) (l : Latches) :
    Beside base n left p { q with phase := ph, latch := l } := h.control p.phase ph p.latch l

/-- R138, R139: where the list ends. -/
theorem Beside.finish {base n left : Nat} {p q : State} (h : Beside base n left p q) (l : Latches) :
    Beside base n left p.instructionFinished (Machine.finish { q with latch := l }) :=
  (h.standing .opcode { l with operandIndex := 0 }).instructionFinished

theorem Beside.runMicroOp {base n left : Nat} {p q : State} (h : Beside base n left p q) {o : Operands} {ctx : Word}
    {op : MicroOp} {rest : List MicroOp} (hr : Running o (op :: rest) ctx q) :
    Beside base n left (op.execute o ctx (op.check ctx p)).2 (Machine.runMicroOp op q) := by
  obtain ⟨-, hb⟩ := (h.check op ctx).execute o ctx op
  unfold Machine.runMicroOp
  dsimp only
  rw [hr.operands, hr.context]
  exact hb.change (by rw [hb.same]) rfl (List.prefix_refl _)

/-- R142: the list ends here if and only if it tests and its tests come out false. -/
theorem MicroOp.stops_eq {taken : Bool} {p : State} {op : MicroOp} {rest : List MicroOp}
    (h : ∀ cc, .proceedIf cc ∈ op :: rest → p.cond cc = taken) : op.stops p = (op.tests && !taken) := by
  cases op with
  | proceedIf cc => simp [MicroOp.stops, MicroOp.tests, h cc List.mem_cons_self]
  | _ => rfl

/-- The machine `q` is at the micro-ops `rest`, `n` ticks beside `p`, and the ticks of `m` M-cycles, up to the last one's
sub-step, are left. -/
structure OpsBeside (taken : Bool) (c base n m : Nat) (o : Operands) (rest : List MicroOp) (ctx : Word) (p q : State) :
    Prop where
  running : Running o rest ctx q
  opcode : p.phase = .opcode
  speed : p.speed.ticksPerCycle = c
  tests : ∀ cc, .proceedIf cc ∈ rest → p.cond cc = taken
  early : testsEarly rest = true
  short : rest.length < 16
  beside : Beside base n ((m - 1) * c + 1) p q

namespace OpsBeside

variable {taken : Bool} {c base n m : Nat} {o : Operands} {op : MicroOp} {rest : List MicroOp} {ctx : Word} {p q : State}

theorem inside (h : OpsBeside taken c base n m o rest ctx p q) : q.phase.inside = true := by
  rw [h.running.phase]
  rfl

theorem ticks (h : OpsBeside taken c base n m o rest ctx p q) : q.speed.ticksPerCycle = c := by
  rw [h.beside.speed, h.speed]

theorem dmaAdvance (h : OpsBeside taken c base n (m + 1) o rest ctx p q) (hm : 1 ≤ m) :
    OpsBeside taken c base (n + c) m o rest ctx p (q.dmaAdvance c) where
  running := h.running.dmaAdvance c
  opcode := h.opcode
  speed := h.speed
  tests := h.tests
  early := h.early
  short := h.short
  beside := h.beside.nextCycle hm

/-- The rest of the list, after the next micro-op. -/
theorem runMicroOp (h : OpsBeside taken c base n m o (op :: rest) ctx p q) :
    OpsBeside taken c base n m o rest (op.execute o ctx (op.check ctx p)).1 (op.execute o ctx (op.check ctx p)).2
      (Machine.runMicroOp op q) where
  running := by
    rw [← ((h.beside.check op ctx).execute o ctx op).1]
    exact h.running.runMicroOp
  opcode := (op.execute_phase o ctx _).trans ((op.check_ordinary ctx p).phase.trans h.opcode)
  speed := by rw [((op.check_ordinary ctx p).sameClock.trans (op.execute_sameClock o ctx _)).2, h.speed]
  tests := fun cc hcc => by
    rw [testsEarly_head h.early hcc]
    exact h.tests cc (List.mem_cons_of_mem op hcc)
  early := testsEarly_tail h.early
  short := Nat.lt_of_succ_lt h.short
  beside := h.beside.runMicroOp h.running

end OpsBeside

/-- R131 step 5, R138, R139: the list from any place in it, the bus used or not, takes its M-cycles and does what it does at
once. -/
theorem engineLoop_finishes {taken : Bool} {o : Operands} {c base : Nat} (rest : List MicroOp) {accessed : Bool}
    {fuel n : Nat} {ctx : Word} {p q : State}
    (h : OpsBeside taken c base n (opsCycles taken accessed rest) o rest ctx p q) (hfuel : rest.length < fuel) :
    Finishes c base n (opsCycles taken accessed rest) (runOps o rest ctx p).instructionFinished
      (engineLoop fuel accessed q) := by
  induction rest generalizing accessed fuel n ctx p q with
  | nil =>
    obtain ⟨fuel, rfl⟩ := Nat.exists_eq_add_one.mpr hfuel
    rw [h.running.engineLoop_nil]
    exact ⟨_, .now rfl, by simpa [opsCycles, runOps] using h.beside.finish q.latch, h.opcode.symm⟩
  | cons op rest ih =>
    have runs : ∀ {accessed : Bool} {fuel n : Nat} {q : State},
        OpsBeside taken c base n (opsCycles taken accessed (op :: rest)) o (op :: rest) ctx p q →
        (accessed && op.touches) = false → rest.length < fuel →
        Finishes c base n (opsCycles taken accessed (op :: rest)) (runOps o (op :: rest) ctx p).instructionFinished
          (engineLoop (fuel + 1) accessed q) := by
      intro accessed fuel n q h hfree hfuel
      rw [opsCycles_runs taken hfree, ← MicroOp.stops_eq h.tests] at h ⊢
      rw [h.running.engineLoop_cons_free fuel hfree, MicroOp.stops_congr h.beside.regs, runOps]
      cases hs : op.stops p with
      | true =>
        simp only [hs, if_true] at h ⊢
        exact ⟨_, .now rfl, by simpa using h.beside.finish _, h.opcode.symm⟩
      | false =>
        cases hf : op.forcesFinish with
        | true =>
          simp only [hs, hf, Bool.false_eq_true, if_true, if_false] at h ⊢
          exact .later h.runMicroOp.inside h.runMicroOp.ticks
            (ih (h.runMicroOp.dmaAdvance (opsCycles_pos taken false rest)) (Nat.lt_of_succ_lt h.short))
        | false =>
          simp only [hs, hf, Bool.false_eq_true, if_false] at h ⊢
          exact ih h.runMicroOp hfuel
    obtain ⟨fuel, rfl⟩ := Nat.exists_eq_add_one.mpr (Nat.zero_lt_of_lt hfuel)
    cases hbusy : accessed && op.touches with
    | false => exact runs h hbusy (Nat.lt_of_succ_lt_succ hfuel)
    | true =>
      obtain ⟨rfl, htouches⟩ := Bool.and_eq_true_iff.mp hbusy
      rw [opsCycles_waits taken htouches] at h ⊢
      rw [h.running.engineLoop_cons, if_pos hbusy]
      exact .later h.inside h.ticks
        (runs (h.dmaAdvance (opsCycles_pos taken false _)) rfl (Nat.lt_of_succ_lt_succ h.short))

/-! ### The operand bytes and the byte after 0xCB or STOP's opcode (R136, R137) -/

/-- R137: an operand byte latched. -/
def Latches.withOperand (l : Latches) (b : Byte) : Latches :=
  if l.operandIndex = 0 then { l with operand0 := b, operandIndex := 1 }
  else { l with operand1 := b, operandIndex := l.operandIndex + 1 }

theorem fetchOperand_withOperand (s : State) : (fetchOperand s).latch = s.latch.withOperand s.fetch8.1 := by
  rw [← s.fetch8_latch]
  rfl

/-- R136: the second byte latched; it selects the entry of the CB table, or STOP ignores it (R116). -/
def Latches.withSecond (l : Latches) (b : Byte) : Latches :=
  { l with opcode2 := b, current := match l.current with | none => some (.cb b) | some e => some e }

theorem fetchSecond_withSecond (s : State) : (fetchSecond s).latch = s.latch.withSecond s.fetch8.1 := by
  rw [← s.fetch8_latch]
  rfl

section Bytes

variable {c base n m fuel : Nat} {t p q : State}

/-- R137: an operand byte has an M-cycle of its own. -/
theorem Finishes.operandByte (hp : q.phase = .operand) (hmore : q.latch.operandIndex < operandLength q.latch.ops)
    (hc : p.speed.ticksPerCycle = c) (hm : 1 ≤ m) (h : Beside base n (m * c + 1) p q)
    (hrest : ∀ u, u.phase = .operand → u.latch = q.latch.withOperand p.fetch8.1 →
      Beside base (n + c) ((m - 1) * c + 1) p.fetch8.2 u → Finishes c base (n + c) m t (engineLoop 15 true u)) :
    Finishes c base n (m + 1) t (engineLoop (fuel + 1) true q) := by
  have hb := h.nextCycle hm
  rw [engineLoop, hp]
  dsimp only
  rw [if_pos hmore, if_pos rfl]
  refine .later (by rw [hp]; rfl) (by rw [h.speed, hc]) ?_
  rw [engineLoop, State.dmaAdvance_phase, hp, State.dmaAdvance_latch]
  dsimp only
  rw [if_pos hmore, if_neg Bool.false_ne_true]
  refine hrest _ ((State.fetch8_phase _).trans ((q.dmaAdvance_phase c).trans hp)) ?_ ?_
  · rw [fetchOperand_withOperand, State.dmaAdvance_latch, hb.fetch8_byte]
  · exact hb.fetch8.standing _ _

/-- R136: so has the byte after 0xCB or STOP's opcode. -/
theorem Finishes.secondByte (hp : q.phase = .extOpcode) (hc : p.speed.ticksPerCycle = c) (hm : 1 ≤ m)
    (h : Beside base n (m * c + 1) p q)
    (hrest : ∀ u, u.phase = .operand → u.latch = q.latch.withSecond p.fetch8.1 →
      Beside base (n + c) ((m - 1) * c + 1) p.fetch8.2 u → Finishes c base (n + c) m t (engineLoop 15 true u)) :
    Finishes c base n (m + 1) t (engineLoop (fuel + 1) true q) := by
  have hb := h.nextCycle hm
  rw [engineLoop, hp]
  dsimp only
  rw [if_pos rfl]
  refine .later (by rw [hp]; rfl) (by rw [h.speed, hc]) ?_
  rw [engineLoop, State.dmaAdvance_phase, hp]
  dsimp only
  rw [if_neg Bool.false_ne_true]
  refine hrest _ rfl ?_ ?_
  · rw [fetchSecond_withSecond, State.dmaAdvance_latch, hb.fetch8_byte]
  · exact hb.fetch8.standing _ _

/-- R137: the operand bytes read, the machine goes on to the micro-ops in the same sub-step. -/
theorem engineLoop_operandsRead (hp : q.phase = .operand) (hdone : operandLength q.latch.ops ≤ q.latch.operandIndex)
    (fuel : Nat) (accessed : Bool) :
    engineLoop (fuel + 1) accessed q = engineLoop fuel accessed { q with phase := .running } := by
  rw [engineLoop, hp]
  dsimp only
  rw [if_neg (Nat.not_lt_of_le hdone)]

end Bytes

/-! ### The tables (R111, R112, R421) -/

/-- The opcodes whose instruction is their micro-op list (R111): the others are undefined (R113), `0xCB` (R115), STOP, HALT. -/
def hasOps (op : Byte) : Bool := !undefinedOpcodes.contains op && op != 0xCB && op != 0x10 && op != 0x76

theorem primaryOps_operandLength : ∀ op : Byte, hasOps op = true → operandLength (primaryOps op) = bytesAfter op := by
  decide

/-- R421: the duration table's figure is the list's. -/
theorem primaryOps_cycles : ∀ (taken : Bool) (op : Byte), hasOps op = true →
    bytesAfter op + opsCycles taken true (primaryOps op) =
      if isConditional op && !taken then notTakenCycles op else primaryCycles op := by decide

/-- R302, R305, R307, R309: only the opcode's own condition is tested. -/
theorem primaryOps_tests : ∀ op : Byte, ∀ m ∈ primaryOps op,
    m.tests = true → m = .proceedIf (condOf (fieldY op % 4)) := by decide

theorem primaryOps_testsEarly : ∀ op : Byte, testsEarly (primaryOps op) = true := by decide

theorem cbOps_operandLength : ∀ op : Byte, operandLength (cbOps op) = 0 := by decide

theorem cbOps_cycles : ∀ op : Byte, 1 + opsCycles true true (cbOps op) = cbCycles op := by decide

theorem cbOps_tests : ∀ op : Byte, ∀ m ∈ cbOps op, m.tests = false := by decide

theorem cbOps_testsEarly : ∀ op : Byte, testsEarly (cbOps op) = true := by decide

theorem durations_bounded : ∀ op : Byte, (1 ≤ primaryCycles op ∧ primaryCycles op ≤ 6) ∧
    (1 ≤ cbCycles op ∧ cbCycles op ≤ 6) ∧ 1 ≤ notTakenCycles op ∧ notTakenCycles op ≤ 6 := by decide

end Sys2Proof.Machine
end

section
/-! From the opcode's fetch to the boundary: every instruction takes the duration table's M-cycles in sub-steps and ends beside
what it does at once (R135 to R139, R421). -/

namespace Sys2Proof.Machine

/-! ### The bytes of an instruction (R103) -/

section Fetch

variable {s : State}

theorem State.fetch_noBytes (h : bytesAfter s.fetchOpcode.1 = 0) :
    s.fetch = { b0 := s.fetchOpcode.1, b1 := 0, b2 := 0, st := s.fetchOpcode.2 } := by
  unfold State.fetch
  dsimp only
  rw [h]
  rfl

theorem State.fetch_oneByte (h : bytesAfter s.fetchOpcode.1 = 1) : s.fetch =
    { b0 := s.fetchOpcode.1, b1 := s.fetchOpcode.2.fetch8.1, b2 := 0, st := s.fetchOpcode.2.fetch8.2 } := by
  unfold State.fetch
  dsimp only
  rw [h]
  rfl

theorem State.fetch_twoBytes (h : bytesAfter s.fetchOpcode.1 = 2) : s.fetch =
    { b0 := s.fetchOpcode.1, b1 := s.fetchOpcode.2.fetch8.1, b2 := s.fetchOpcode.2.fetch8.2.fetch8.1
      st := s.fetchOpcode.2.fetch8.2.fetch8.2 } := by
  unfold State.fetch
  dsimp only
  rw [h]
  rfl

theorem State.fetch_cond (s : State) (cc : Cond) : s.fetch.st.cond cc = s.cond cc := by
  cases cc <;> simp only [State.cond, State.fetch_regs]

theorem bytesAfter_le : ∀ op : Byte, bytesAfter op = 0 ∨ bytesAfter op = 1 ∨ bytesAfter op = 2 := by decide

theorem hasOps_iff (op : Byte) : hasOps op = true ↔
    undefinedOpcodes.contains op = false ∧ op ≠ 0xCB ∧ op ≠ 0x10 ∧ op ≠ 0x76 := by
  simp [hasOps, and_assoc]

end Fetch

/-! ### After the fetch of the opcode -/

/-- R135: the latches after the fetch of an opcode of the primary table. -/
def Latches.ofOpcode (op : Byte) : Latches := { Latches.clear with opcode1 := op, current := some (.primary op) }

section Loop

variable {taken : Bool} {c base n : Nat} {p q s : State}

/-- R137, R138: the operand bytes read, the micro-ops follow. -/
theorem Finishes.operandsRead {ops : List MicroOp} {o : Operands} (hq : q.phase = .operand)
    (hread : operandLength ops ≤ q.latch.operandIndex) (hops : q.latch.ops = ops) (ho : q.latch.operands = o)
    (hfirst : q.latch.opcode1 ≠ 0x10 ∧ q.latch.opcode1 ≠ 0x76) (hstart : q.latch.opIndex = 0 ∧ q.latch.opContext = 0)
    (hp : p.phase = .opcode) (hc : p.speed.ticksPerCycle = c) (htests : ∀ cc, .proceedIf cc ∈ ops → p.cond cc = taken)
    (hearly : testsEarly ops = true) (h : Beside base n ((opsCycles taken true ops - 1) * c + 1) p q) :
    Finishes c base n (opsCycles taken true ops) (runOps o ops 0 p).instructionFinished (engineLoop 15 true q) := by
  obtain ⟨hstop, hhalt⟩ := hfirst
  obtain ⟨hindex, hctx⟩ := hstart
  have hshort := q.latch.ops_short
  rw [hops] at hshort
  rw [engineLoop_operandsRead hq (by rw [hops]; exact hread)]
  refine engineLoop_finishes ops ⟨⟨rfl, hstop, hhalt, ho, hctx, ?_⟩, hp, hc, htests, hearly, by omega,
    h.standing .running q.latch⟩ (by omega)
  dsimp only
  rw [hindex, hops, List.drop_zero]

/-- R135 to R139: an instruction that is a list of the primary table, from the end of its opcode's fetch. -/
theorem Finishes.primary (hhas : hasOps s.fetchOpcode.1 = true) (hs : s.phase = .opcode)
    (hc : s.speed.ticksPerCycle = c) (htaken : s.condTaken s.fetchOpcode.1 = taken) (hq : q.phase = .operand)
    (hl : q.latch = Latches.ofOpcode s.fetchOpcode.1)
    (h : Beside base n ((bytesAfter s.fetchOpcode.1 + opsCycles taken true (primaryOps s.fetchOpcode.1) - 1) * c + 1)
      s.fetchOpcode.2 q) :
    Finishes c base n (bytesAfter s.fetchOpcode.1 + opsCycles taken true (primaryOps s.fetchOpcode.1))
      (runOps { b0 := s.fetch.b1, b1 := s.fetch.b2 } (primaryOps s.fetchOpcode.1) 0 s.fetch.st).instructionFinished
      (engineLoop 15 true q) := by
  obtain ⟨-, -, hfirst⟩ := (hasOps_iff _).mp hhas
  have hlen := primaryOps_operandLength _ hhas
  have hpos := opsCycles_pos taken true (primaryOps s.fetchOpcode.1)
  have hc' : s.fetchOpcode.2.speed.ticksPerCycle = c := by rw [s.fetchOpcode_speed, hc]
  have htests : ∀ cc, .proceedIf cc ∈ primaryOps s.fetchOpcode.1 → s.fetch.st.cond cc = taken := fun cc hcc => by
    rw [State.fetch_cond, MicroOp.proceedIf.inj (primaryOps_tests _ _ hcc rfl)]
    exact htaken
  have ready : ∀ {k : Nat} {u : State}, u.phase = .operand → bytesAfter s.fetchOpcode.1 ≤ u.latch.operandIndex →
      u.latch = { Latches.ofOpcode s.fetchOpcode.1 with
        operand0 := s.fetch.b1, operand1 := s.fetch.b2, operandIndex := u.latch.operandIndex } →
      Beside base k ((opsCycles taken true (primaryOps s.fetchOpcode.1) - 1) * c + 1) s.fetch.st u →
      Finishes c base k (opsCycles taken true (primaryOps s.fetchOpcode.1))
        (runOps { b0 := s.fetch.b1, b1 := s.fetch.b2 } (primaryOps s.fetchOpcode.1) 0 s.fetch.st).instructionFinished
        (engineLoop 15 true u) := fun hu hread hlatch hbeside =>
    .operandsRead hu (hlen ▸ hread) (by rw [hlatch]; rfl) (by rw [hlatch]; rfl) (by rw [hlatch]; exact hfirst)
      (by rw [hlatch]; exact ⟨rfl, rfl⟩) (s.fetch_phase.trans hs) (by rw [s.fetch_speed, hc]) htests
      (primaryOps_testsEarly _) hbeside
  generalize opsCycles taken true (primaryOps s.fetchOpcode.1) = m at h hpos ready ⊢
  obtain hb | hb | hb := bytesAfter_le s.fetchOpcode.1
  · have hf := State.fetch_noBytes hb
    rw [hb, Nat.zero_add] at h ⊢
    refine ready hq (by omega) ?_ (by rw [hf]; exact h)
    rw [hl, hf]
    rfl
  · have hf := State.fetch_oneByte hb
    rw [hb, Nat.add_comm 1 m] at h ⊢
    refine .operandByte hq (by rw [hl]; exact hlen ▸ hb ▸ Nat.one_pos) hc' hpos h fun u hu hlu hbu => ?_
    rw [hl] at hlu
    refine ready hu (by rw [hb, hlu]; exact Nat.le_refl 1) ?_ (by rw [hf]; exact hbu)
    rw [hlu, hf]
    rfl
  · have hf := State.fetch_twoBytes hb
    rw [hb, Nat.add_comm 2 m] at h ⊢
    refine .operandByte hq (by rw [hl]; exact hlen ▸ hb ▸ Nat.two_pos) hc' (Nat.succ_pos _) h fun u hu hlu hbu => ?_
    rw [hl] at hlu
    refine .operandByte hu (by rw [hlu]; exact hlen ▸ hb ▸ Nat.one_lt_two) (by rw [State.fetch8_speed, hc']) hpos hbu
      fun w hw hlw hbw => ?_
    rw [hlu] at hlw
    refine ready hw (by rw [hb, hlw]; exact Nat.le_refl 2) ?_ (by rw [hf]; exact hbw)
    rw [hlw, hf]
    rfl

/-- R115, R138: an instruction of the CB table, from the end of its first byte's fetch. -/
theorem Finishes.cb (hop : s.fetchOpcode.1 = 0xCB) (hs : s.phase = .opcode) (hc : s.speed.ticksPerCycle = c)
    (hq : q.phase = .extOpcode) (hl : q.latch = { Latches.clear with opcode1 := 0xCB })
    (h : Beside base n ((cbCycles s.fetch.b1 - 1) * c + 1) s.fetchOpcode.2 q) :
    Finishes c base n (cbCycles s.fetch.b1)
      (runOps { b0 := 0, b1 := 0 } (cbOps s.fetch.b1) 0 s.fetch.st).instructionFinished (engineLoop 15 true q) := by
  have hf := State.fetch_oneByte (s := s) (by rw [hop]; rfl)
  have hpos := opsCycles_pos true true (cbOps s.fetch.b1)
  rw [← cbOps_cycles, Nat.add_comm 1 (opsCycles _ _ _)] at h ⊢
  refine .secondByte hq (by rw [s.fetchOpcode_speed, hc]) hpos h fun u hu hlu hbu => ?_
  have hlatch : u.latch =
      { Latches.clear with opcode1 := 0xCB, opcode2 := s.fetch.b1, current := some (.cb s.fetch.b1) } := by
    rw [hlu, hl, hf]
    rfl
  refine .operandsRead (taken := true) hu (by rw [cbOps_operandLength]; exact Nat.zero_le _) (by rw [hlatch]; rfl)
    (by rw [hlatch]; rfl) (by rw [hlatch]; exact ⟨nofun, nofun⟩) (by rw [hlatch]; exact ⟨rfl, rfl⟩)
    (s.fetch_phase.trans hs) (by rw [s.fetch_speed, hc]) (fun cc hcc => ?_) (cbOps_testsEarly _) (by rwa [hf] at hbu ⊢)
  cases cbOps_tests _ _ hcc

/-- R331, R332: STOP, from the end of its opcode's fetch. -/
theorem Finishes.stop {t : State} (hop : s.fetchOpcode.1 = 0x10) (hc : s.speed.ticksPerCycle = c)
    (hq : q.phase = .extOpcode) (hl : q.latch = Latches.ofOpcode 0x10) (h : Beside base n (1 * c + 1) s.fetchOpcode.2 q)
    (ht : execSTOP s.fetch.b1 s.fetch.st = .next t) : Finishes c base n 2 t (engineLoop 15 true q) := by
  have hf := State.fetch_oneByte (s := s) (by rw [hop]; rfl)
  rw [hf] at ht
  refine .secondByte hq (by rw [s.fetchOpcode_speed, hc]) (Nat.le_refl 1) h fun u hu hlu hbu => ?_
  rw [hl] at hlu
  obtain ⟨v, hv, hp, hb⟩ := (hbu.standing .running u.latch).execSTOP ht
  have hloop : engineLoop 15 true u = .next v := by
    rw [engineLoop_operandsRead hu (by rw [hlu]; exact Nat.zero_le _), engineLoop]
    dsimp only
    rw [hlu] at hv ⊢
    exact hv
  rw [hloop]
  exact ⟨v, .now (by rw [hp]; exact execSTOP_idle ht), by simpa using hb, hp⟩

/-- R334: HALT, from the end of its fetch. -/
theorem Finishes.halt {t : State} (hq : q.phase = .operand) (hl : q.latch = Latches.ofOpcode 0x76)
    (h : Beside base n 1 p q) (ht : execHALT p = .next t) : Finishes c base n 1 t (engineLoop 15 true q) := by
  obtain ⟨v, hv, hp, hb⟩ := (h.standing .running q.latch).execHALT ht
  rw [engineLoop_operandsRead hq (by rw [hl]; exact Nat.zero_le _), engineLoop]
  dsimp only
  rw [if_neg (by rw [hl]; nofun), if_pos (by rw [hl]; rfl), hv]
  exact ⟨v, .now (by rw [hp]; exact execHALT_idle ht), by simpa using hb, hp⟩

end Loop

/-! ### The fetch of the opcode (R135) -/

section Opcode

variable {s : State}

theorem fetchState_undefined (h : undefinedOpcodes.contains s.fetchOpcode.1 = true) :
    fetchState s = .fault (.undefinedOpcode s.fetchOpcode.1 s.fetchOpcode.2.regs.pc) := if_pos h

theorem fetchState_cb (h : s.fetchOpcode.1 = 0xCB) : fetchState s =
    .next { s.fetchOpcode.2 with latch := { Latches.clear with opcode1 := 0xCB }, phase := .extOpcode } := by
  unfold fetchState
  dsimp only
  rw [h]
  rfl

theorem fetchState_stop (h : s.fetchOpcode.1 = 0x10) : fetchState s =
    .next { s.fetchOpcode.2 with latch := Latches.ofOpcode 0x10, phase := .extOpcode } := by
  unfold fetchState
  dsimp only
  rw [h]
  rfl

theorem fetchState_operand (hdef : undefinedOpcodes.contains s.fetchOpcode.1 = false) (hcb : s.fetchOpcode.1 ≠ 0xCB)
    (hstop : s.fetchOpcode.1 ≠ 0x10) : fetchState s =
      .next { s.fetchOpcode.2 with latch := Latches.ofOpcode s.fetchOpcode.1, phase := .operand } := by
  unfold fetchState
  dsimp only
  rw [hdef, if_neg Bool.false_ne_true, if_neg hcb, if_neg hstop]
  rfl

end Opcode

/-! ### A whole instruction -/

theorem opcode_cases (op : Byte) : undefinedOpcodes.contains op = true ∨ op = 0xCB ∨ op = 0x10 ∨ op = 0x76 ∨
    hasOps op = true := by
  rw [hasOps_iff]
  cases undefinedOpcodes.contains op <;> tauto

/-- R113. -/
theorem decodeBytes_of_undefined {op : Byte} (h : undefinedOpcodes.contains op = true) (b1 b2 : Byte) :
    decodeBytes op b1 b2 = .UNDEFINED op := by
  simp only [undefinedOpcodes, List.contains_iff_mem, List.mem_cons, List.not_mem_nil, or_false] at h
  obtain rfl | rfl | rfl | rfl | rfl | rfl | rfl | rfl | rfl | rfl | rfl := h <;> rfl

/-- R121: the instruction at once is its list. -/
theorem exec_of_hasOps {op : Byte} (h : hasOps op = true) (b1 b2 : Byte) (s : State) :
    exec (decodeBytes op b1 b2) s = done (runOps { b0 := b1, b1 := b2 } (primaryOps op) 0 s) := by
  obtain ⟨hdef, hcb, hstop, hhalt⟩ := (hasOps_iff op).mp h
  rw [decodeBytes, if_neg hcb]
  refine decodePrimary_runs b1 b2 s hdef ?_ hcb
  rw [List.mem_cons, List.mem_singleton]
  exact not_or.mpr ⟨hstop, hhalt⟩

/-- R421: the duration table's figure and the list's. -/
theorem State.cycles_of_hasOps (s : State) {op : Byte} (h : hasOps op = true) (b1 : Byte) :
    s.cycles op b1 = bytesAfter op + opsCycles (s.condTaken op) true (primaryOps op) := by
  obtain ⟨-, hcb, -⟩ := (hasOps_iff op).mp h
  rw [primaryOps_cycles _ _ h, State.cycles, if_neg hcb]

theorem State.cycles_bounded (s : State) (b0 b1 : Byte) : 1 ≤ s.cycles b0 b1 ∧ s.cycles b0 b1 ≤ 6 := by
  obtain ⟨hprimary, -, hnot⟩ := durations_bounded b0
  obtain ⟨-, hcb, -⟩ := durations_bounded b1
  unfold State.cycles
  split_ifs <;> assumption

theorem Speed.ticksPerCycle_le (sp : Speed) : sp.ticksPerCycle ≤ 4 := by cases sp <;> decide

/-- The state in which the first sub-step of a step from `s` begins is beside `s`. -/
theorem Beside.start {s : State} {m : Nat} (hm : 1 ≤ m) (hshort : m ≤ 6)
    (hopen : ∀ d, s.dma = some d → m * s.speed.ticksPerCycle < d.ticksLeft) :
    Beside s.events.length (s.speed.ticksPerCycle - 1) ((m - 1) * s.speed.ticksPerCycle + 1) s
      (s.dmaAdvance (s.speed.ticksPerCycle - 1)) := by
  have hc := s.speed.ticksPerCycle_pos
  have hle := s.speed.ticksPerCycle_le
  generalize s.speed.ticksPerCycle = c at hc hle hopen ⊢
  obtain ⟨k, rfl⟩ := Nat.exists_eq_add_one.mpr hm
  have hleft : (k + 1 - 1) * c + 1 + (c - 1) = (k + 1) * c := by
    rw [Nat.add_sub_cancel, Nat.succ_mul]
    omega
  have hall : (k + 1) * c ≤ 6 * 4 := Nat.mul_le_mul hshort hle
  have hstart := Beside.refl (s := s) (left := (k + 1 - 1) * c + 1 + (c - 1)) (by rwa [hleft]) (by omega)
  simpa using hstart.turns

section Instruction

variable {s : State} (hp : s.phase = .opcode) (ha : s.ic.accepts = false)
include hp ha

theorem firstSubstep_opcode : s.firstSubstep = engineLoop 16 false (s.dmaAdvance (s.speed.ticksPerCycle - 1)) :=
  substep_opcode (by rw [State.dmaAdvance_phase, hp]) (by rw [State.dmaAdvance_ic, ha])

/-- R135 to R139, R421: in sub-steps the instruction takes the duration table's M-cycles and ends beside what it does at once. -/
theorem firstSubstep_finishes {t : State} {m : Nat} (hm : m = s.fetch.st.cycles s.fetch.b0 s.fetch.b1)
    (hopen : ∀ d, s.dma = some d → m * s.speed.ticksPerCycle < d.ticksLeft)
    (ht : exec (decodeBytes s.fetch.b0 s.fetch.b1 s.fetch.b2) s.fetch.st = .next t) :
    Finishes s.speed.ticksPerCycle s.events.length (s.speed.ticksPerCycle - 1) m t s.firstSubstep := by
  obtain ⟨hpos, hle⟩ := s.fetch.st.cycles_bounded s.fetch.b0 s.fetch.b1
  have hstart := Beside.start (hm ▸ hpos) (hm ▸ hle) hopen
  have hbyte := hstart.fetchOpcode_byte
  have hbeside := hstart.fetchOpcode
  have hq : (s.dmaAdvance (s.speed.ticksPerCycle - 1)).phase = .opcode := by rw [State.dmaAdvance_phase, hp]
  rw [firstSubstep_opcode hp ha]
  generalize s.dmaAdvance (s.speed.ticksPerCycle - 1) = q at hbeside hbyte hq ⊢
  rw [s.fetch_b0, ← s.fetchOpcode_byte] at hm ht
  obtain hdef | hcb | hstop | hhalt | hhas := opcode_cases s.fetchOpcode.1
  · rw [decodeBytes_of_undefined hdef] at ht
    cases ht
  · rw [engineLoop_fetches hq (fetchState_cb (hbyte.trans hcb))]
    rw [hcb] at hm ht
    subst hm
    cases (decodeCB_runs s.fetch.st ⟨0, 0⟩ s.fetch.b1).symm.trans ht
    exact .cb hcb hp rfl rfl rfl (hbeside.standing _ _)
  · rw [engineLoop_fetches hq (fetchState_stop (hbyte.trans hstop))]
    rw [hstop] at hm ht
    subst hm
    exact .stop hstop rfl rfl rfl (hbeside.standing _ _) ht
  · have hf := State.fetch_noBytes (s := s) (by rw [hhalt]; rfl)
    rw [engineLoop_fetches hq (fetchState_operand (by rw [hbyte, hhalt]; rfl) (by rw [hbyte, hhalt]; nofun)
      (by rw [hbyte, hhalt]; nofun)), hbyte, hhalt]
    rw [hhalt] at hm ht
    obtain rfl : m = 1 := hm.trans rfl
    rw [Nat.sub_self, Nat.zero_mul, Nat.zero_add] at hbeside
    exact .halt (p := s.fetchOpcode.2) rfl rfl (hbeside.standing _ _) (by rw [hf] at ht; exact ht)
  · obtain ⟨hdef, hcb, hstop, hhalt⟩ := (hasOps_iff _).mp hhas
    rw [engineLoop_fetches hq (fetchState_operand (by rw [hbyte, hdef]) (by rwa [hbyte]) (by rwa [hbyte])), hbyte]
    rw [State.cycles_of_hasOps _ hhas] at hm
    subst hm
    cases (exec_of_hasOps hhas _ _ _).symm.trans ht
    exact .primary hhas hp rfl (s.fetch_cond _).symm rfl rfl (hbeside.standing _ _)

/-- R135, R157: an undefined opcode stops the first sub-step. -/
theorem firstSubstep_faults {e : Fault} (hopen : ∀ d, s.dma = some d → s.speed.ticksPerCycle < d.ticksLeft)
    (he : exec (decodeBytes s.fetch.b0 s.fetch.b1 s.fetch.b2) s.fetch.st = .fault e) : s.firstSubstep = .fault e := by
  have hstart := Beside.start (s := s) (Nat.le_refl 1) (by decide) (by rwa [Nat.one_mul])
  obtain ⟨op, hop⟩ : ∃ op, decodeBytes s.fetch.b0 s.fetch.b1 s.fetch.b2 = .UNDEFINED op := by
    by_contra hdef
    obtain ⟨t, ht⟩ := exec_completes (fun op hop => hdef ⟨op, hop⟩) s.fetch.st
    cases ht.symm.trans he
  obtain ⟨rfl, hlen, hdef⟩ := decodeBytes_undefined hop
  rw [hop] at he
  rw [s.fetch_b0, ← s.fetchOpcode_byte] at hlen hdef he
  rw [State.fetch_noBytes hlen] at he
  cases he
  rw [firstSubstep_opcode hp ha, engineLoop_fetch_faults (by rw [State.dmaAdvance_phase, hp])
    (fetchState_undefined (by rw [hstart.fetchOpcode_byte, hdef])), hstart.fetchOpcode_byte, hstart.fetchOpcode.regs]

end Instruction

end Sys2Proof.Machine
end

section
/-! O59: the step during an OAM DMA, or that starts one. `timedStep` takes the row of sub-steps of `Finishes` as M-cycles, and the
row ends beside the instruction at once. -/

namespace Sys2Proof.Machine

/-! ### An instruction during a DMA, or starting one (R75, R148) -/

/-- R34: the latches belong to the sub-steps; an instruction at once leaves them. -/
theorem exec_latch {i : Instr} (hi : i ≠ .PREFIX_CB) {s t : State} (ht : exec i s = .next t) : t.latch = s.latch := by
  obtain ⟨u, ho, rfl⟩ | ⟨u, enable, delayed, ho, rfl⟩ | ⟨-, ht⟩ | ⟨pad, -, ht⟩ | ⟨hcb, -⟩ := exec_cases ht
  · exact ho.latch
  · exact ho.latch
  · unfold execHALT at ht
    split at ht <;> cases ht <;> rfl
  · unfold execSTOP at ht
    split at ht <;> cases ht <;> rfl
  · exact absurd hcb hi

/-- R78: the DMA's turn in the last tick of a step. A tick passes in it even where the step's last access starts a window. -/
theorem Beside.lastTurn {base n : Nat} {p q : State} (h : Beside base n 1 p q) {d : DmaTransfer} (hd : p.dma = some d) :
    ∃ k, 1 ≤ k ∧ k ≤ n + 1 ∧ (q.dmaAdvance 1).dma = some { d with ticksLeft := d.ticksLeft - k } ∧
      (NoDmaStart base p → k = n + 1) := by
  obtain ⟨k, hk, hw, hopen, hall⟩ := h.window d hd
  refine ⟨k + 1, by omega, by omega, ?_, fun hno => congrArg (· + 1) (hall hno)⟩
  rw [State.dmaAdvance_counts hw (by dsimp only; omega), Nat.sub_sub]

/-- The state after a step taken M-cycle by M-cycle, beside the one it is at once. -/
theorem Finishes.timedStep {base n m : Nat} {s t : State} (h : Finishes s.speed.ticksPerCycle base n m t s.firstSubstep)
    (hm : m ≤ 16) (hl : t.latch = s.latch) : ∃ u v, Machine.timedStep s = .next u ∧ u = { t with dma := u.dma } ∧
      Beside base (n + (m - 1) * s.speed.ticksPerCycle) 1 t v ∧ u.dma = (v.dmaAdvance 1).dma := by
  obtain ⟨v, hv, hb, hp⟩ := h
  refine ⟨_, v, hv.timedStep hm, ?_, hb, rfl⟩
  have hsame := (hb.turns (left := 0) (j := 1)).same
  dsimp only
  rw [hsame]
  dsimp only
  rw [v.dmaAdvance_phase, hp, ← hl]

/-- R11: the ticks of `m` M-cycles, one by one and all at once. -/
theorem ticks_eq {c m : Nat} (hc : 1 ≤ c) (hm : 1 ≤ m) : c - 1 + (m - 1) * c + 1 = m * c := by
  obtain ⟨k, rfl⟩ := Nat.exists_eq_add_one.mpr hm
  rw [Nat.add_sub_cancel, Nat.succ_mul]
  omega

/-- Settles O59: where the M-cycles are taken one by one they end beside the instruction at once, a DMA's turn later; where they
are not, no window is open before or after. -/
theorem stepDuringDma : Obligations.StepDuringDma := by
  unfold Obligations.StepDuringDma
  intro s hp ha f i n hopen
  have hidle : s.phase.idle = true := by rw [hp]; rfl
  have hcpu : cpuStep s = exec i f.st := cpuStep_opcode hp ha
  obtain ⟨hpos, hle⟩ := f.st.cycles_bounded f.b0 f.b1
  have hc := s.speed.ticksPerCycle_pos
  refine ⟨fun t ht => ?_, fun e he => ?_⟩
  · obtain ⟨-, e, hnone⟩ | e := step_cases hidle
    · have hd := hnone t (hcpu.trans ht)
      exact ⟨t, e.trans (hcpu.trans ht), rfl, id, fun d hd' => (by cases hd.symm.trans hd')⟩
    · have hlatch : t.latch = s.latch := (exec_latch (decodeBytes_ne_PREFIX_CB _ _ _) ht).trans s.fetch_latch
      obtain ⟨u, v, hu, hsame, hb, hdma⟩ :=
        (firstSubstep_finishes hp ha rfl hopen ht).timedStep (hle.trans (by decide)) hlatch
      refine ⟨u, e.trans hu, hsame, fun hd => ?_, fun d hd => ?_⟩
      · rw [hdma, v.dmaAdvance_idle 1 (hb.noDma hd), hb.noDma hd]
      · obtain ⟨k, hk, hkn, hw, hall⟩ := hb.lastTurn hd
        rw [ticks_eq hc hpos] at hkn hall
        exact ⟨k, hk, hkn, hdma.trans hw, hall⟩
  · have hlt : ∀ d, s.dma = some d → s.speed.ticksPerCycle < d.ticksLeft := fun d hd =>
      (Nat.le_mul_of_pos_left _ hpos).trans_lt (hopen d hd)
    obtain ⟨-, e', -⟩ | e' := step_cases hidle
    · exact e'.trans (hcpu.trans he)
    · exact e'.trans (timedStep_faults (firstSubstep_faults hp ha hlt he))

end Sys2Proof.Machine
end

section
/-! O58: the step as ticks (R148). `quietTicks` takes the row of sub-steps of `Finishes`; a step at once is what the row ends
beside, and with no DMA before or after it nothing but the latches tells the two apart. -/

namespace Sys2Proof.Machine

/-! ### A dispatch in sub-steps (R361 to R366) -/

theorem takeInterrupt_eq {s : State} {i : Irq} (hi : selectIrq s.ic.ifByte s.ic.ie = some i) :
    takeInterrupt s = irqJump (irqPush2 (irqPush1 (irqReadIE (irqReadIF (acceptInterrupt s))))) := by
  have hp : (irqReadIE (irqReadIF (acceptInterrupt s))).phase = .irqPush1 := by
    rw [irqReadIE_of_start hi (.refl _)]
  rw [takeInterrupt, hp, if_neg (by decide)]

theorem substep_irq {s t : State} (hbusy : s.phase.idle = false) (h : irqSubstep s = some t) : substep s = .next t := by
  simp [substep, hbusy, h]

/-- A stage of the dispatch has an M-cycle of its own. -/
theorem Finishes.irqStage {c base n m : Nat} {t p q : State} (f : State → State) {ph : Phase}
    (hf : ∀ u : State, u.phase = ph → irqSubstep u = some (f u)) (hbusy : ph.idle = false) (hq : q.phase = ph)
    (hc : p.speed.ticksPerCycle = c) (hm : 1 ≤ m) (h : Beside base n (m * c + 1) p q)
    (hrest : ∀ u, Beside base (n + c) ((m - 1) * c + 1) p u → Finishes c base (n + c) m t (.next (f u))) :
    Finishes c base n (m + 1) t (.next q) := by
  have hu : (q.dmaAdvance c).phase = ph := by rw [State.dmaAdvance_phase, hq]
  refine .next (by rw [hq, hbusy]) (by rw [h.speed, hc]) ?_
  rw [substep_irq (by rw [hu, hbusy]) (hf _ hu)]
  exact hrest _ (h.nextCycle hm)

/-- R361 to R366: five sub-steps, ending beside the dispatch at once. -/
theorem firstSubstep_dispatches {s : State} (hidle : s.phase.idle = true) (ha : s.ic.accepts = true)
    (hd : s.dma = none) : Finishes s.speed.ticksPerCycle s.events.length (s.speed.ticksPerCycle - 1) 5 (takeInterrupt s)
      s.firstSubstep := by
  obtain ⟨i, hi⟩ := IntCtl.accepts_selects ha
  have hstart := Beside.start (s := s) (m := 5) (by decide) (by decide) (fun d hd' => by cases hd.symm.trans hd')
  have hfirst : s.firstSubstep =
      .next (irqReadIF (acceptInterrupt (s.dmaAdvance (s.speed.ticksPerCycle - 1)))) := by
    simp [State.firstSubstep, substep, hidle, ha, irqSubstep, acceptInterrupt_phase]
  have h0 := (hstart.acceptInterrupt (s.dmaAdvance_phase _)).irqReadIF
  rw [hfirst, takeInterrupt_eq hi]
  have hs0 : (irqReadIF (acceptInterrupt s)).speed = s.speed := by
    rw [irqReadIF_eq]
    exact (acceptInterrupt_sameClock s).2
  have hsel : selectIrq (irqReadIF (acceptInterrupt s)).irq.irqIF (irqReadIF (acceptInterrupt s)).ic.ie = some i := by
    rw [irqReadIF_eq, acceptInterrupt_eq]
    exact hi
  generalize irqReadIF (acceptInterrupt s) = p0 at h0 hs0 hsel ⊢
  have hs1 : (irqReadIE p0).speed = s.speed := by rw [irqReadIE_of_some hsel, hs0]
  have hs2 : (irqPush1 (irqReadIE p0)).speed = s.speed := ((Ordinary.pushByte _ .push1 _).speed).trans hs1
  have hs3 : (irqPush2 (irqPush1 (irqReadIE p0))).speed = s.speed := ((Ordinary.pushByte _ .push2 _).speed).trans hs2
  refine .irqStage irqReadIE (ph := .irqReadIE) (fun u hu => by simp [irqSubstep, hu]) rfl rfl (by rw [hs0]) (by decide) h0
    fun u1 h1 => ?_
  have hp1 : (irqReadIE u1).phase = .irqPush1 := by
    rw [irqReadIE_of_some (i := i) (by rw [h1.irq, h1.ic]; exact hsel)]
  refine .irqStage irqPush1 (ph := .irqPush1) (fun u hu => by simp [irqSubstep, hu]) rfl hp1 (by rw [hs1]) (by decide)
    (h1.irqReadIE hsel) fun u2 h2 => ?_
  refine .irqStage irqPush2 (ph := .irqPush2) (fun u hu => by simp [irqSubstep, hu]) rfl rfl (by rw [hs2]) (by decide) h2.irqPush1
    fun u3 h3 => ?_
  refine .irqStage irqJump (ph := .irqJump) (fun u hu => by simp [irqSubstep, hu]) rfl rfl (by rw [hs3]) (by decide) h3.irqPush2
    fun u4 h4 => ?_
  exact ⟨_, .now (by rw [irqJump_phase]; rfl), by simpa using h4.irqJump, by rw [irqJump_phase, irqJump_phase]⟩

/-! ### The step and its ticks -/

/-- `m` M-cycles of ticks lead to the state `step` answers, but for the latches, or to the same fault. -/
def StepTakes (s : State) (m : Nat) : Prop :=
  (∃ t u, step s = .next t ∧ quietTicks (m * s.speed.ticksPerCycle) s = .next u ∧ u = { t with latch := u.latch }) ∨
    ∃ e, step s = .fault e ∧ quietTicks (m * s.speed.ticksPerCycle) s = .fault e

section Step

variable {s t : State} {m base n : Nat} (h0 : s.clockCycle = 0)
include h0

/-- Taken M-cycle by M-cycle, the step is the same row of sub-steps. -/
theorem StepTakes.of_ends {v : State} (hstep : step s = timedStep s) (h : Ends s.firstSubstep m v) (hm : m ≤ 16) :
    StepTakes s m :=
  .inl ⟨_, _, hstep.trans (h.timedStep hm), h.quietTicks rfl h0, rfl⟩

/-- Taken at once, with no DMA before or after, the step is what the row ends beside. -/
theorem StepTakes.of_finishes (hidle : s.phase.idle = true) (hcpu : cpuStep s = .next t)
    (h : Finishes s.speed.ticksPerCycle base n m t s.firstSubstep) (hm : m ≤ 16) : StepTakes s m := by
  obtain ⟨v, hv, hb, hp⟩ := h
  obtain ⟨-, e, hnone⟩ | e := step_cases hidle
  · have hvd : v.dma = none := hb.noDma (hnone t hcpu)
    refine .inl ⟨t, v, e.trans hcpu, ?_, ?_⟩
    · rw [hv.quietTicks rfl h0, v.dmaAdvance_idle 1 hvd]
    · refine hb.same.trans ?_
      rw [hp, hvd, ← hnone t hcpu]
  · exact .of_ends h0 e hv hm

theorem StepTakes.of_fault {e : Fault} (hstep : step s = cpuStep s ∨ step s = timedStep s) (hcpu : cpuStep s = .fault e)
    (h : s.firstSubstep = .fault e) : StepTakes s 1 :=
  .inr ⟨e, hstep.elim (·.trans hcpu) (·.trans (timedStep_faults h)), quietTicks_faults h h0⟩

end Step

theorem undefined_cycles : ∀ op : Byte, undefinedOpcodes.contains op = true →
    op ≠ 0xCB ∧ isConditional op = false ∧ primaryCycles op = 1 := by decide

/-- R133, R153: an instruction from `Opcode`, or from `Halted` with a request, begins as from `Opcode`. -/
theorem instruction_asOpcode {s : State} (ha : s.ic.accepts = false)
    (hs : s.phase = .opcode ∨ s.phase = .halted ∧ s.ic.requested = true) :
    cpuStep s = instructionStep { s with phase := .opcode } ∧
      s.firstSubstep = State.firstSubstep { s with phase := .opcode } := by
  obtain hp | ⟨hp, hr⟩ := hs
  · have hsame : { s with phase := .opcode } = s := by rw [← hp]
    rw [hsame]
    exact ⟨cpuStep_opcode hp ha, rfl⟩
  · refine ⟨by simp [cpuStep, ha, hp, hr], ?_⟩
    exact (substep_waking (by simpa using ha) (by simpa using hp) (by simpa using hr)).trans
      (congrArg substep (s.dmaAdvance_withPhase .opcode _).symm)

/-- R421: with no DMA at the start, an instruction takes the duration table's M-cycles. -/
theorem StepTakes.instruction {s : State} (h0 : s.clockCycle = 0) (ha : s.ic.accepts = false) (hd : s.dma = none)
    (hs : s.phase = .opcode ∨ s.phase = .halted ∧ s.ic.requested = true) {f : Fetched}
    (hf : f = State.fetch { s with phase := .opcode }) : StepTakes s (f.st.cycles f.b0 f.b1) := by
  subst hf
  have hidle : s.phase.idle = true := by obtain hp | ⟨hp, -⟩ := hs <;> rw [hp] <;> rfl
  obtain ⟨hcpu, hfirst⟩ := instruction_asOpcode ha hs
  have hopen : ∀ k d, s.dma = some d → k < d.ticksLeft := fun k d hd' => by cases hd.symm.trans hd'
  obtain ⟨t, ht⟩ | ⟨op, pc, he, hdef, hop, -⟩ := instructionStep_completes_or_stops { s with phase := .opcode }
  · have hfinish := firstSubstep_finishes (s := { s with phase := .opcode }) rfl ha rfl (hopen _) ht
    rw [← hfirst] at hfinish
    exact .of_finishes h0 hidle (hcpu.trans ht) hfinish ((State.cycles_bounded _ _ _).2.trans (by decide))
  · have hfault := firstSubstep_faults (s := { s with phase := .opcode }) rfl ha (hopen _) he
    rw [hop, ← State.fetch_b0] at hdef
    obtain ⟨hcb, hcond, hone⟩ := undefined_cycles _ hdef
    rw [State.cycles_plain _ _ hcb hcond, hone]
    exact .of_fault h0 ((step_cases hidle).imp (·.2.1) id) (hcpu.trans he) (hfirst.trans hfault)

/-- R133, R134: an idle step is an M-cycle. -/
theorem StepTakes.waiting {s : State} (h0 : s.clockCycle = 0) (ha : s.ic.accepts = false) (hd : s.dma = none)
    (hw : s.phase = .stopped ∨ s.phase = .halted ∧ s.ic.requested = false) : StepTakes s 1 := by
  have hidle : s.phase.idle = true := by obtain hp | ⟨hp, -⟩ := hw <;> rw [hp] <;> rfl
  have hends : Ends s.firstSubstep 1 s := by
    rw [State.firstSubstep, s.dmaAdvance_idle _ hd, substep_waiting ha hw]
    exact .now hidle
  refine .inl ⟨s, s, ?_, ?_, rfl⟩
  · rw [step_waiting ha hw, s.dmaAdvance_idle _ hd]
  · rw [hends.quietTicks rfl h0, s.dmaAdvance_idle 1 hd]

/-- With a DMA in progress at the start a step is at most 16 M-cycles. -/
theorem StepTakes.during {s : State} (h0 : s.clockCycle = 0) (hidle : s.phase.idle = true) (hd : s.dma.isSome = true) :
    ∃ m, 1 ≤ m ∧ m ≤ 16 ∧ StepTakes s m := by
  have hstep := step_eq_timedStep hidle hd
  have hq : (s.dmaAdvance (s.speed.ticksPerCycle - 1)).phase.idle = true := by rwa [State.dmaAdvance_phase]
  obtain h | ⟨op, pc, he, -⟩ := substep_completes_or_stops hq
  · obtain ⟨m, t, hm, ht⟩ := ends_of_completes 16 (State.remaining_idle hq).le h
    exact ⟨m, ht.pos, hm, .of_ends h0 hstep ht hm⟩
  · exact ⟨1, Nat.le_refl 1, by decide, .inr ⟨_, hstep.trans (timedStep_faults he), quietTicks_faults he h0⟩⟩

/-- Settles O58: with a DMA in progress the step is the row of sub-steps; with none it is at once what the row ends beside. -/
theorem stepIsTicks : Obligations.StepIsTicks := by
  unfold Obligations.StepIsTicks
  intro s h0 hidle f
  cases hd : s.dma with
  | some d =>
    obtain ⟨m, hpos, hle, h⟩ := StepTakes.during h0 hidle (by rw [hd]; rfl)
    exact ⟨m, hpos, hle, nofun, h⟩
  | none =>
    obtain ⟨hpos, hle⟩ := f.st.cycles_bounded f.b0 f.b1
    obtain ⟨ha, e⟩ | ⟨ha, hp, -⟩ | ⟨ha, hp, hr, -⟩ | ⟨ha, hw, -⟩ := cpuStep_cases hidle
    · exact ⟨5, by decide, by decide, fun _ => by rw [if_pos ha],
        StepTakes.of_finishes h0 hidle e (firstSubstep_dispatches hidle ha hd) (by decide)⟩
    · exact ⟨_, hpos, hle.trans (by decide), fun _ => by simp [ha, hp],
        StepTakes.instruction h0 ha hd (.inl hp) rfl⟩
    · exact ⟨_, hpos, hle.trans (by decide), fun _ => by simp [ha, hp, hr],
        StepTakes.instruction h0 ha hd (.inr ⟨hp, hr⟩) rfl⟩
    · refine ⟨1, Nat.le_refl 1, by decide, fun _ => ?_, StepTakes.waiting h0 ha hd hw⟩
      obtain hp | ⟨hp, hr⟩ := hw
      · simp [ha, hp]
      · simp [ha, hp, hr]

end Sys2Proof.Machine
end
